-- ==== Sys2Proof/Word.lean ====
section
/-! DEFINITION. The two data widths of the core and its counter width (spec/00_scope.md R6, R8): the 8-bit byte, the 32-bit
unsigned word, the 64-bit count. All three wrap; the spec has no signed operation. -/

namespace Sys2Proof

/-- R8: a byte is an integer 0 to 255. -/
abbrev Byte := BitVec 8

/-- R6, R8: a word is an unsigned integer 0 to 2^32 - 1; `+` on it is the spec's `+32` (R9). -/
abbrev Word := BitVec 32

/-- R23: the bit counter's 64 bits; `+` on it is the spec's `+64` (R9). -/
abbrev Count := BitVec 64

end Sys2Proof
end

