-- ==== Sys2Proof/Syntax.lean ====
section
/-! DEFINITION. Syntax: the 70 rows of spec/opcode_table.json, one constructor each. Six host commands (spec/30_encoding.md R74)
and the 64 internal step operations (R78, spec/40_block_compressor.md R120 to R183). The only operand of any row is the payload of
`UPDATE`, `HEXDEC` and `HEXCMP`; its LEN field (R72, R73, R75) is the payload's length and is not held a second time. -/

namespace Sys2Proof

/-- One constructor per row of the opcode table. -/
inductive Instr where
  /-- R201: begin a new digest. -/
  | init
  /-- R203: absorb message bytes. -/
  | update (payload : List Byte)
  /-- R205: pad, produce the digest, wipe the context. -/
  | final
  /-- R231: render the digest register as hex. -/
  | hexenc
  /-- R232: decode a hex string into the raw register. -/
  | hexdec (payload : List Byte)
  /-- R233: compare the hex register with a string. -/
  | hexcmp (payload : List Byte)
  -- R120 to R127: round 1
  | step0 | step1 | step2 | step3 | step4 | step5 | step6 | step7
  -- R128 to R135: round 1
  | step8 | step9 | step10 | step11 | step12 | step13 | step14 | step15
  -- R136 to R143: round 2
  | step16 | step17 | step18 | step19 | step20 | step21 | step22 | step23
  -- R144 to R151: round 2
  | step24 | step25 | step26 | step27 | step28 | step29 | step30 | step31
  -- R152 to R159: round 3
  | step32 | step33 | step34 | step35 | step36 | step37 | step38 | step39
  -- R160 to R167: round 3
  | step40 | step41 | step42 | step43 | step44 | step45 | step46 | step47
  -- R168 to R175: round 4
  | step48 | step49 | step50 | step51 | step52 | step53 | step54 | step55
  -- R176 to R183: round 4
  | step56 | step57 | step58 | step59 | step60 | step61 | step62 | step63
  deriving DecidableEq, Repr

end Sys2Proof
end

