-- ==== Sys2Proof/WellFormed.lean ====
section
/-! DEFINITION. Well-formedness: the payload lengths the length fields can carry (spec/30_encoding.md R72: LEN of format U is
0 to 65535; R73: LEN of format S is 0 to 255; R79: a longer operand is refused). A row without operand is always well formed. -/

namespace Sys2Proof

/-- R72, R73: the payload fits the length field of the row's format. -/
def Instr.wellFormed : Instr → Bool
  | .update payload => payload.length ≤ 65535
  | .hexdec payload => payload.length ≤ 255
  | .hexcmp payload => payload.length ≤ 255
  | .init | .final | .hexenc => true
  | .step0 | .step1 | .step2 | .step3 | .step4 | .step5 | .step6 | .step7
  | .step8 | .step9 | .step10 | .step11 | .step12 | .step13 | .step14 | .step15
  | .step16 | .step17 | .step18 | .step19 | .step20 | .step21 | .step22 | .step23
  | .step24 | .step25 | .step26 | .step27 | .step28 | .step29 | .step30 | .step31
  | .step32 | .step33 | .step34 | .step35 | .step36 | .step37 | .step38 | .step39
  | .step40 | .step41 | .step42 | .step43 | .step44 | .step45 | .step46 | .step47
  | .step48 | .step49 | .step50 | .step51 | .step52 | .step53 | .step54 | .step55
  | .step56 | .step57 | .step58 | .step59 | .step60 | .step61 | .step62 | .step63 => true

/-- The proposition a statement uses. -/
abbrev WellFormed (i : Instr) : Prop := i.wellFormed = true

end Sys2Proof
end

