-- ==== Sys2Proof/Decode.lean ====
section
/-! DEFINITION. Encoding. Two operand spaces (spec/30_encoding.md): the byte stream of the command port (R70 to R77), and the 6-bit
step index of the compressor (R78), which the host never supplies. The decoder is total on any bytes and on any index, and rejects
by name. Everything from `encodeLength` on is the encoder, written from the same format tables. -/

namespace Sys2Proof

/-! ### The opcode map (R74) -/

/-- R70: the three formats of the command stream: no operand, 16-bit length and payload, 8-bit length and payload. -/
inductive Format where
  | N | U | S
  deriving DecidableEq, Repr

/-- R74: the six defined opcodes. -/
inductive Opcode where
  | init | update | final | hexenc | hexdec | hexcmp
  deriving DecidableEq, Repr

/-- One row of the opcode map: the match is on the bits the mask selects. -/
structure OpcodeRow where
  op : Opcode
  code : Byte
  mask : Byte
  format : Format
  deriving DecidableEq, Repr

/-- R74: the opcode map; every row is matched on all eight bits of byte 0. -/
def opcodeMap : List OpcodeRow :=
  [ ⟨.init, 0x01, 0xff, .N⟩, ⟨.update, 0x02, 0xff, .U⟩, ⟨.final, 0x03, 0xff, .N⟩,
    ⟨.hexenc, 0x10, 0xff, .N⟩, ⟨.hexdec, 0x11, 0xff, .S⟩, ⟨.hexcmp, 0x12, 0xff, .S⟩ ]

/-- R74, R76: the row of an opcode byte, or none where the byte is illegal. -/
def opcodeRow (op : Byte) : Option OpcodeRow :=
  opcodeMap.find? fun row => op &&& row.mask == row.code

/-- The instruction an opcode and its payload make; formats without a payload have the empty one. -/
def Opcode.instr : Opcode → List Byte → Instr
  | .init, _ => .init
  | .update, payload => .update payload
  | .final, _ => .final
  | .hexenc, _ => .hexenc
  | .hexdec, payload => .hexdec payload
  | .hexcmp, payload => .hexcmp payload

/-! ### Decoding the command stream -/

/-- R32, R33: where the decoder stands when the bytes run out: which byte it expects next, with the opcode latch, the length bytes
already latched, the staged payload and the remaining-length counter. `opcode` is a command boundary; the others are inside a
command. -/
inductive Position where
  | opcode
  | lengthByte (op : Opcode)
  | lengthLow (op : Opcode)
  | lengthHigh (op : Opcode) (low : Byte)
  | payload (op : Opcode) (staged : List Byte) (remaining : Nat)
  deriving DecidableEq, Repr

/-- What the decoder makes of a byte sequence: a whole command and the bytes after it, an illegal opcode and the bytes after it
(R76), or a wait for more bytes (R77). -/
inductive Decoded where
  | instr (i : Instr) (rest : List Byte)
  | illegal (op : Byte) (rest : List Byte)
  | waiting (position : Position)
  deriving DecidableEq, Repr

/-- R72, R75: LEN of format U, byte1 + 256*byte2. -/
def lengthU (low high : Byte) : Nat := low.toNat + 256 * high.toNat

/-- R73, R75: LEN of format S, byte1. -/
def lengthS (len : Byte) : Nat := len.toNat

/-- R72, R73: the payload is the next `len` bytes, in order; short of them the decoder waits. -/
def decodePayload (op : Opcode) (len : Nat) (bytes : List Byte) : Decoded :=
  if bytes.length < len then .waiting (.payload op bytes (len - bytes.length))
  else .instr (op.instr (bytes.take len)) (bytes.drop len)

/-- R70 to R77: the decoder of the command stream at a command boundary, total on any bytes. -/
def decodeCommand : List Byte → Decoded
  | [] => .waiting .opcode
  | op :: bytes =>
    match opcodeRow op with
    | none => .illegal op bytes
    | some row =>
      match row.format, bytes with
      | .N, _ => .instr (row.op.instr []) bytes
      | .U, [] => .waiting (.lengthLow row.op)
      | .U, [low] => .waiting (.lengthHigh row.op low)
      | .U, low :: high :: rest => decodePayload row.op (lengthU low high) rest
      | .S, [] => .waiting (.lengthByte row.op)
      | .S, len :: rest => decodePayload row.op (lengthS len) rest

/-! ### Decoding the step index (R78) -/

/-- R78, R120 to R183: the 64 internal operations in index order. -/
def stepTable : Vector Instr 64 := #v[
  .step0, .step1, .step2, .step3, .step4, .step5, .step6, .step7,
  .step8, .step9, .step10, .step11, .step12, .step13, .step14, .step15,
  .step16, .step17, .step18, .step19, .step20, .step21, .step22, .step23,
  .step24, .step25, .step26, .step27, .step28, .step29, .step30, .step31,
  .step32, .step33, .step34, .step35, .step36, .step37, .step38, .step39,
  .step40, .step41, .step42, .step43, .step44, .step45, .step46, .step47,
  .step48, .step49, .step50, .step51, .step52, .step53, .step54, .step55,
  .step56, .step57, .step58, .step59, .step60, .step61, .step62, .step63]

/-- R78: the operation the 6-bit step index selects; every index selects one. -/
def decodeStep (t : BitVec 6) : Instr := stepTable[t.toNat]

/-! ### One decoder for both spaces -/

/-- A code of the table: bytes of the command stream, or a step index. -/
inductive Code where
  | bytes (bs : List Byte)
  | selector (t : BitVec 6)
  deriving DecidableEq, Repr

/-- R70, R78: the decoder. -/
def decode : Code → Decoded
  | .bytes bs => decodeCommand bs
  | .selector t => .instr (decodeStep t) []

/-! ### The host's words, numbered as spec/opcode_table.json numbers them

The table gives the STEP rows 6-bit indices in the same numbers as the command opcodes (index 1 is STEP1, byte 0x01 is INIT): they
are two spaces, and a bare number does not say which. DESIGN CHOICE (log entry 4): a number whose first byte is a defined opcode is
read as that command, any other number of at most one byte as a step index under the STEP rows' mask 0x3f; a number of fewer than 8
bits is always a step index. -/

/-- Byte `i` of a number, the first byte least significant. -/
def wordByte (w i : Nat) : Byte := BitVec.ofNat 8 (w >>> (8 * i))

/-- R70: how many bytes the command that starts with this number has. -/
def commandLength (w : Nat) : Nat :=
  match opcodeRow (wordByte w 0) with
  | none => 1
  | some row =>
    match row.format with
    | .N => 1
    | .U => 3 + lengthU (wordByte w 1) (wordByte w 2)
    | .S => 2 + lengthS (wordByte w 1)

/-- The code a table word of `nbits` bits stands for. The spec does not say how a bare number is read; DESIGN CHOICE (log entry 4): bits
of the number above `nbits` are dropped; a command keeps the bytes its own length says, so a longer number's further bytes are dropped
and a shorter one's are zero; an undefined opcode keeps its one byte; a step index keeps its low 6 bits. -/
def tableCode (nbits w : Nat) : Code :=
  let v := w % 2 ^ nbits
  if nbits < 8 ∨ (nbits = 8 ∧ opcodeRow (wordByte v 0) = none) then .selector (BitVec.ofNat 6 v)
  else .bytes ((List.range (commandLength v)).map (wordByte v))

/-- The instruction the decoder reads from a table word, none where it refuses. -/
def decodeTableWord (nbits w : Nat) : Option Instr :=
  match decode (tableCode nbits w) with
  | .instr i [] => some i
  | .instr _ (_ :: _) => none
  | .illegal _ _ => none
  | .waiting _ => none

/-! ### The encoder -/

/-- R72: the two length bytes of format U, low byte first. -/
def encodeLengthU (payload : List Byte) : List Byte :=
  [BitVec.ofNat 8 payload.length, BitVec.ofNat 8 (payload.length / 256)]

/-- R73: the length byte of format S. -/
def encodeLengthS (payload : List Byte) : List Byte := [BitVec.ofNat 8 payload.length]

/-- R71 to R74, R78: the code of a well-formed instruction. -/
def encode : Instr → Code
  | .init => .bytes [0x01]
  | .update payload => .bytes (0x02 :: encodeLengthU payload ++ payload)
  | .final => .bytes [0x03]
  | .hexenc => .bytes [0x10]
  | .hexdec payload => .bytes (0x11 :: encodeLengthS payload ++ payload)
  | .hexcmp payload => .bytes (0x12 :: encodeLengthS payload ++ payload)
  | .step0 => .selector 0
  | .step1 => .selector 1
  | .step2 => .selector 2
  | .step3 => .selector 3
  | .step4 => .selector 4
  | .step5 => .selector 5
  | .step6 => .selector 6
  | .step7 => .selector 7
  | .step8 => .selector 8
  | .step9 => .selector 9
  | .step10 => .selector 10
  | .step11 => .selector 11
  | .step12 => .selector 12
  | .step13 => .selector 13
  | .step14 => .selector 14
  | .step15 => .selector 15
  | .step16 => .selector 16
  | .step17 => .selector 17
  | .step18 => .selector 18
  | .step19 => .selector 19
  | .step20 => .selector 20
  | .step21 => .selector 21
  | .step22 => .selector 22
  | .step23 => .selector 23
  | .step24 => .selector 24
  | .step25 => .selector 25
  | .step26 => .selector 26
  | .step27 => .selector 27
  | .step28 => .selector 28
  | .step29 => .selector 29
  | .step30 => .selector 30
  | .step31 => .selector 31
  | .step32 => .selector 32
  | .step33 => .selector 33
  | .step34 => .selector 34
  | .step35 => .selector 35
  | .step36 => .selector 36
  | .step37 => .selector 37
  | .step38 => .selector 38
  | .step39 => .selector 39
  | .step40 => .selector 40
  | .step41 => .selector 41
  | .step42 => .selector 42
  | .step43 => .selector 43
  | .step44 => .selector 44
  | .step45 => .selector 45
  | .step46 => .selector 46
  | .step47 => .selector 47
  | .step48 => .selector 48
  | .step49 => .selector 49
  | .step50 => .selector 50
  | .step51 => .selector 51
  | .step52 => .selector 52
  | .step53 => .selector 53
  | .step54 => .selector 54
  | .step55 => .selector 55
  | .step56 => .selector 56
  | .step57 => .selector 57
  | .step58 => .selector 58
  | .step59 => .selector 59
  | .step60 => .selector 60
  | .step61 => .selector 61
  | .step62 => .selector 62
  | .step63 => .selector 63

/-- The bytes an instruction puts on the command stream; an internal step puts none (R78). -/
def encodeBytes (i : Instr) : List Byte :=
  match encode i with
  | .bytes bs => bs
  | .selector _ => []

/-- R70: the command stream of a command sequence. -/
def encodeStream (is : List Instr) : List Byte := is.flatMap encodeBytes

end Sys2Proof
end

