-- ==== Sys2Proof/Config.lean ====
section
/-! DEFINITION. What the spec leaves unspecified. The spec leaves no parameter open (spec/00_scope.md R7: "a model takes no
configuration argument"), so no number stands here. The only unspecified VALUES are those of the hidden working state at a
command boundary (spec/10_state.md R33, spec/93_implementation_defined.md U11 "any value"); they are free values. Log entry 2. -/

namespace Sys2Proof.Config

/-- R33, U11: the value hidden word number `i` (0 to 3 for `a` to `d`, 4 to 19 for `X[0]` to `X[15]`) holds after the
`n`-th executed host command. Nothing is known of it. -/
opaque freeWord (n : Nat) (i : Nat) : Word

/-- R33, U11: the value the hidden count latch `L` holds after the `n`-th executed host command. Nothing is known of it. -/
opaque freeLatch (n : Nat) : Count

end Sys2Proof.Config
end

