-- ==== Sys2Proof/Machine/State.lean ====
section
/-! DEFINITION. The state of the core (spec/10_state.md R20), the hidden state of a command in progress (R33), the command bytes
still to be taken, the reasons a step can stop, and the state after reset (R36). Plain data throughout. -/

namespace Sys2Proof.Machine

/-- R25: the engine phase. The encoding 3 is not a state (spec/93_implementation_defined.md U13). -/
inductive Phase where
  | fresh | accum | finalized
  deriving DecidableEq, Repr

/-- R21: the DigestState, four words. -/
structure DigestState where
  h0 : Word
  h1 : Word
  h2 : Word
  h3 : Word
  deriving DecidableEq, Repr

/-- R81: a block is 64 bytes, byte 0 first received. -/
abbrev Block := Vector Byte 64

/-- R20: the EngineContext: `H`, `BUF` and `CNT`, which no port shows. -/
structure Context where
  h : DigestState
  buf : Block
  cnt : Count
  deriving DecidableEq, Repr

/-- R33: the compressor's working variables and the word view of its block. -/
structure Work where
  a : Word
  b : Word
  c : Word
  d : Word
  x : Vector Word 16
  deriving DecidableEq, Repr

/-- R20 and R33: the state of the core, with the host's unconsumed command bytes. -/
structure State where
  /-- R21 to R23. -/
  ctx : Context
  /-- R25. -/
  phase : Phase
  /-- R26. -/
  digest : Vector Byte 16
  /-- R26. -/
  digestValid : Bool
  /-- R27. -/
  hex : Vector Byte 32
  /-- R27. -/
  hexValid : Bool
  /-- R28. -/
  raw : Vector Byte 16
  /-- R28. -/
  rawValid : Bool
  /-- R29: MATCH. -/
  matched : Bool
  /-- R30: sticky. -/
  errState : Bool
  /-- R30: sticky; when it is set the core is halted. -/
  errIllegal : Bool
  /-- R33: hidden, unspecified at a command boundary (log entry 2). -/
  work : Work
  /-- R33, R205: the latched bit count `L`; hidden, unspecified at a command boundary (log entry 2). -/
  latch : Count
  /-- R32, R33, R78: the step index while a `compress` is in progress, none at a command boundary. -/
  stepIndex : Option (BitVec 6)
  /-- R13, R70: the command bytes no executed command has consumed, the next one first (the model's own field; which of them count as
  transferred: log entry 3). -/
  input : List Byte
  /-- The number of host commands executed, which numbers the free values (the model's own field, log entry 2). -/
  boundaryCount : Nat
  deriving DecidableEq, Repr

/-- Why a step can stop with a fault. -/
inductive Fault where
  /-- R252: `ERR_ILLEGAL` is set and the core is halted until reset. Raised by the fetch. Safe: the spec says the core has no step. -/
  | halted
  /-- R77, U9: the host stopped inside a command; the core waits for ever and the command has no effect. Raised by the fetch.
  Safe: the spec says the core is stuck. -/
  | truncatedCommand
  deriving DecidableEq, Repr

/-- Why an instruction can have no meaning. -/
inductive Refusal where
  /-- The instruction's arm gives it no meaning yet. Raised by `exec` only. Safe. -/
  | notModelled (mnemonic : String)
  deriving DecidableEq, Repr

/-- The outcome type of every meaning. -/
abbrev Outcome := Host.Outcome State Fault Refusal

/-- R206, R36: the context with every bit zero. -/
def Context.zero : Context := ⟨⟨0, 0, 0, 0⟩, Vector.replicate 64 0, 0⟩

/-- R271: the hidden working state after reset. -/
def Work.zero : Work := ⟨0, 0, 0, 0, Vector.replicate 16 0⟩

/-- R36: after reset every bit is 0, the phase is FRESH, the decoder expects an opcode byte and nothing is in progress. -/
def State.reset : State where
  ctx := .zero
  phase := .fresh
  digest := Vector.replicate 16 0
  digestValid := false
  hex := Vector.replicate 32 0
  hexValid := false
  raw := Vector.replicate 16 0
  rawValid := false
  matched := false
  errState := false
  errIllegal := false
  work := .zero
  latch := 0
  stepIndex := none
  input := []
  boundaryCount := 0

end Sys2Proof.Machine
end

