-- ==== Sys2Proof/Machine/Tables.lean ====
section
/-! DEFINITION. The constants of the step function (spec/00_scope.md R13: "plain immutable tables, not regenerated at runtime"):
the initial words, the additive constants, the rotation amounts, the schedule and the role permutation. The hex alphabet stands with
the codec. -/

namespace Sys2Proof.Machine

/-- R201: the four words `INIT` loads. -/
def initialDigestState : DigestState := ⟨0x67452301, 0xefcdab89, 0x98badcfe, 0x10325476⟩

/-- R106: `K[0..63]`. -/
def kTable : Vector Word 64 := #v[
  0xd76aa478, 0xe8c7b756, 0x242070db, 0xc1bdceee, 0xf57c0faf, 0x4787c62a, 0xa8304613, 0xfd469501,
  0x698098d8, 0x8b44f7af, 0xffff5bb1, 0x895cd7be, 0x6b901122, 0xfd987193, 0xa679438e, 0x49b40821,
  0xf61e2562, 0xc040b340, 0x265e5a51, 0xe9b6c7aa, 0xd62f105d, 0x02441453, 0xd8a1e681, 0xe7d3fbc8,
  0x21e1cde6, 0xc33707d6, 0xf4d50d87, 0x455a14ed, 0xa9e3e905, 0xfcefa3f8, 0x676f02d9, 0x8d2a4c8a,
  0xfffa3942, 0x8771f681, 0x6d9d6122, 0xfde5380c, 0xa4beea44, 0x4bdecfa9, 0xf6bb4b60, 0xbebfbc70,
  0x289b7ec6, 0xeaa127fa, 0xd4ef3085, 0x04881d05, 0xd9d4d039, 0xe6db99e5, 0x1fa27cf8, 0xc4ac5665,
  0xf4292244, 0x432aff97, 0xab9423a7, 0xfc93a039, 0x655b59c3, 0x8f0ccc92, 0xffeff47d, 0x85845dd1,
  0x6fa87e4f, 0xfe2ce6e0, 0xa3014314, 0x4e0811a1, 0xf7537e82, 0xbd3af235, 0x2ad7d2bb, 0xeb86d391]

/-- R107: row `r` holds the four rotation amounts of round `r + 1`. -/
def rotationRows : Vector (Vector Nat 4) 4 :=
  #v[#v[7, 12, 17, 22], #v[5, 9, 14, 20], #v[4, 11, 16, 23], #v[6, 10, 15, 21]]

/-- R78: the round of a step, `t[5:4]`, counted from 0. -/
def roundOf (t : BitVec 6) : BitVec 2 := t.extractLsb' 4 2

/-- R78: the step within its round, `t[3:0]`. -/
def stepInRound (t : BitVec 6) : BitVec 4 := t.extractLsb' 0 4

/-- R78: `t[1:0]`, which selects the rotation within the row and the roles. -/
def stepColumn (t : BitVec 6) : BitVec 2 := t.extractLsb' 0 2

/-- R106: the constant of a step. -/
def kOf (t : BitVec 6) : Word := kTable[t.toNat]

/-- R107: the rotation amount of a step. -/
def rotationOf (t : BitVec 6) : Nat := rotationRows[(roundOf t).toNat][(stepColumn t).toNat]

/-- R108: the message word a step uses, by the formula of its round. -/
def scheduleOf (t : BitVec 6) : Fin 16 :=
  let i := (stepInRound t).toNat
  match (roundOf t).toNat with
  | 0 => Fin.ofNat 16 i
  | 1 => Fin.ofNat 16 (1 + 5 * i)
  | 2 => Fin.ofNat 16 (5 + 3 * i)
  | _ => Fin.ofNat 16 (7 * i)

/-- R109: the four working variables. -/
inductive WorkVar where
  | a | b | c | d
  deriving DecidableEq, Repr

/-- R109: the variable a step writes and the three it reads through the round function. -/
structure Roles where
  w : WorkVar
  x : WorkVar
  y : WorkVar
  z : WorkVar
  deriving DecidableEq, Repr

/-- R109: the role assignment, by `t mod 4`. -/
def rolesOf (t : BitVec 6) : Roles :=
  match (stepColumn t).toNat with
  | 0 => ⟨.a, .b, .c, .d⟩
  | 1 => ⟨.d, .a, .b, .c⟩
  | 2 => ⟨.c, .d, .a, .b⟩
  | _ => ⟨.b, .c, .d, .a⟩

end Sys2Proof.Machine
end

