-- ==== Sys2Proof/Machine/Operands.lean ====
section
/-! DEFINITION. Operand forms: rotation, byte and word conversions (spec/00_scope.md R9, R10), the fill level, and reading and
writing a working variable by its role. The length fields and payloads of the commands are operands the decoder assembles
(Decode.lean, R75). -/

namespace Sys2Proof.Machine

/-- R9: rotation to the left, for the amounts 1 to 31. -/
def rotl32 (v : Word) (s : Nat) : Word := v.rotateLeft s

/-- R10: four bytes to a word, the first least significant. -/
def le32 (b0 b1 b2 b3 : Byte) : Word := b3 ++ b2 ++ b1 ++ b0

/-- R10: a word to four bytes, least significant first. -/
def bytesLE32 (w : Word) : List Byte :=
  [w.extractLsb' 0 8, w.extractLsb' 8 8, w.extractLsb' 16 8, w.extractLsb' 24 8]

/-- R10: a count to eight bytes, least significant first. -/
def bytesLE64 (c : Count) : List Byte :=
  [c.extractLsb' 0 8, c.extractLsb' 8 8, c.extractLsb' 16 8, c.extractLsb' 24 8,
   c.extractLsb' 32 8, c.extractLsb' 40 8, c.extractLsb' 48 8, c.extractLsb' 56 8]

/-- R51, R101: the sixteen words of a block. -/
def loadWords (block : Block) : Vector Word 16 :=
  Vector.ofFn fun i : Fin 16 => le32 block[4 * i.val] block[4 * i.val + 1] block[4 * i.val + 2] block[4 * i.val + 3]

/-- R52, R83: the digest bytes of a state: `bytesLE32` of each word, lowest state word first. -/
def serialise (h : DigestState) : Vector Byte 16 :=
  ⟨(bytesLE32 h.h0 ++ bytesLE32 h.h1 ++ bytesLE32 h.h2 ++ bytesLE32 h.h3).toArray, rfl⟩

/-- R24: the number of bytes buffered, `(CNT div 8) mod 64`. -/
def fill (cnt : Count) : Nat := cnt.toNat / 8 % 64

/-- R24: between 0 and 63. -/
theorem fill_lt (cnt : Count) : fill cnt < 64 := Nat.mod_lt _ (by decide)

/-- R109: the value of a working variable. -/
def Work.get (q : Work) : WorkVar → Word
  | .a => q.a
  | .b => q.b
  | .c => q.c
  | .d => q.d

/-- R110: writing one working variable leaves the other three and the block words alone. -/
def Work.set (q : Work) (v : Word) : WorkVar → Work
  | .a => { q with a := v }
  | .b => { q with b := v }
  | .c => { q with c := v }
  | .d => { q with d := v }

end Sys2Proof.Machine
end

