-- ==== Sys2Proof/Machine/Flags.lean ====
section
/-! DEFINITION. The flags and STATUS (spec/10_state.md R25 to R31): every flag computation the spec gives. No arithmetic operation
sets a flag (spec/40_block_compressor.md R114). -/

namespace Sys2Proof.Machine

/-- R25: the numeric encoding of the phase. -/
def Phase.code : Phase → BitVec 2
  | .fresh => 0
  | .accum => 1
  | .finalized => 2

/-- R31: STATUS, bit 7 first: ERR_ILLEGAL, ERR_STATE, MATCH, RAW_VALID, HEX_VALID, DIGEST_VALID, PHASE. -/
def status (s : State) : BitVec 8 :=
  BitVec.ofBool s.errIllegal ++ BitVec.ofBool s.errState ++ BitVec.ofBool s.matched ++ BitVec.ofBool s.rawValid ++
    BitVec.ofBool s.hexValid ++ BitVec.ofBool s.digestValid ++ s.phase.code

/-- R205: a produced digest is valid, and what spoke of the replaced one is not. -/
def State.flagsAfterFinal (s : State) : State := { s with digestValid := true, hexValid := false, matched := false }

/-- R233: `MATCH`: HEX_VALID = 1, LEN = 32 and all bytes equal. -/
def compareFlag (s : State) (payload : List Byte) : Bool :=
  s.hexValid && decide (payload.length = 32) && decide (payload = s.hex.toList)

end Sys2Proof.Machine
end

