-- ==== Sys2Proof/Machine/Ops.lean ====
section
/-! DEFINITION. The shared operations: raising a fault (the core's whole exception entry, spec/60_exceptions.md R251, R252, R256:
nothing is saved, no mode changes, control goes nowhere), the end of a command, consuming the stream, zeroisation. There is no
return-from-fault (R257): only reset clears a fault flag (R270, Environment.lean). -/

namespace Sys2Proof.Machine

/-- R251: `raise StateFault`: `ERR_STATE <- 1` and nothing else; the command is discarded whole. -/
def raiseStateFault (s : State) : State := { s with errState := true }

/-- R252: `raise IllegalCommand`: `ERR_ILLEGAL <- 1` and no other register; the core is halted from here on. -/
def raiseIllegalCommand (s : State) : State := { s with errIllegal := true }

/-- R33, U11: the hidden working state nothing is known of. -/
def freeWork (n : Nat) : Work :=
  ⟨Config.freeWord n 0, Config.freeWord n 1, Config.freeWord n 2, Config.freeWord n 3,
    Vector.ofFn fun i : Fin 16 => Config.freeWord n (4 + i.val)⟩

/-- R33: the command boundary after an executed host command: the hidden state holds unspecified values (log entry 2). -/
def endCommand (s : State) : State :=
  { s with work := freeWork s.boundaryCount, latch := Config.freeLatch s.boundaryCount, boundaryCount := s.boundaryCount + 1 }

/-- R70: the bytes of a command, or of an illegal opcode, are consumed. -/
def consume (s : State) (rest : List Byte) : State := { s with input := rest }

/-- R206: zeroisation: all of `H`, `BUF` and `CNT`. -/
def zeroise (s : State) : State := { s with ctx := .zero }

/-- R205: "the original bit count", latched before any padding is absorbed. -/
def latchCount (s : State) : State := { s with latch := s.ctx.cnt }

/-- Apply a state operation to the next state of an outcome. -/
def mapNext (f : State → State) : Outcome → Outcome
  | .next s => .next (f s)
  | .fault r => .fault r
  | .refused r => .refused r

end Sys2Proof.Machine
end

