-- ==== Sys2Proof/Machine/Compressor.lean ====
section
/-! DEFINITION. The Block Compressor (spec/40_block_compressor.md): the round functions, the generic step (R110), `compress` (R100),
the 64 step operations as instructions with every constant written out (R120 to R183), and the sequencing of a `compress` in
progress (R113). `compress` is built from the generic step and the tables; the 64 meanings are a second transcription, from the
64 rules. -/

namespace Sys2Proof.Machine

/-- R102. -/
def F1 (x y z : Word) : Word := z ^^^ (x &&& (y ^^^ z))

/-- R103. -/
def F2 (x y z : Word) : Word := F1 z x y

/-- R104. -/
def F3 (x y z : Word) : Word := x ^^^ y ^^^ z

/-- R105. -/
def F4 (x y z : Word) : Word := y ^^^ (x ||| ~~~z)

/-- R102 to R105: the round function of a round counted from 0. -/
def roundFunction (r : BitVec 2) : Word → Word → Word → Word :=
  match r.toNat with
  | 0 => F1
  | 1 => F2
  | 2 => F3
  | _ => F4

/-- R110: the value a step writes: the sum with the round function, the message word and the constant, rotated, plus `x`. -/
def stepValue (f : Word → Word → Word → Word) (w x y z m k : Word) (s : Nat) : Word :=
  rotl32 (w + f x y z + m + k) s + x

/-- R110: `STEP t`, from the tables. -/
def genericStep (t : BitVec 6) (q : Work) : Work :=
  let roles := rolesOf t
  q.set (stepValue (roundFunction (roundOf t)) (q.get roles.w) (q.get roles.x) (q.get roles.y) (q.get roles.z)
    q.x[scheduleOf t] (kOf t) (rotationOf t)) roles.w

/-- R101, R111: the words of the block loaded and the working variables seeded from the state. -/
def seedWork (h : DigestState) (block : Block) : Work := ⟨h.h0, h.h1, h.h2, h.h3, loadWords block⟩

/-- R113: the step indices in their fixed order. -/
def stepOrder : List (BitVec 6) := (List.range 64).map (BitVec.ofNat 6)

/-- R113: the 64 steps, each on what the one before left. -/
def runSteps (q : Work) : Work := stepOrder.foldl (fun q t => genericStep t q) q

/-- R112: feed-forward, component by component. -/
def feedForward (h : DigestState) (q : Work) : DigestState := ⟨h.h0 + q.a, h.h1 + q.b, h.h2 + q.c, h.h3 + q.d⟩

/-- R100: the compression function. -/
def compress (h : DigestState) (block : Block) : DigestState := feedForward h (runSteps (seedWork h block))

/-! ### The compressor in progress -/

/-- R111, R113: a `compress` of `H` and `BUF` begins: seeded, at step 0. -/
def startCompress (s : State) : State := { s with work := seedWork s.ctx.h s.ctx.buf, stepIndex := some 0 }

/-- R113, R112: after a step the index goes to the next one; after step 63 the feed-forward goes to `H` and the `compress` is over. -/
def advanceStep (t : BitVec 6) (s : State) : State :=
  if t = 63 then { s with ctx := { s.ctx with h := feedForward s.ctx.h s.work }, stepIndex := none }
  else { s with stepIndex := some (t + 1) }

/-! ### The 64 step operations (R120 to R183)

Each writes one working variable and nothing else (R110: "Writes: `w` only. Flags written: none. Faults: none, for any input"). -/

/-- R110: a step writes its value to its variable. -/
def writeStep (s : State) (w : WorkVar) (v : Word) : Outcome := .next { s with work := s.work.set v w }

/-- R120. -/
def execStep0 (s : State) : Outcome :=
  writeStep s .a (stepValue F1 s.work.a s.work.b s.work.c s.work.d s.work.x[0] 0xd76aa478 7)

/-- R121. -/
def execStep1 (s : State) : Outcome :=
  writeStep s .d (stepValue F1 s.work.d s.work.a s.work.b s.work.c s.work.x[1] 0xe8c7b756 12)

/-- R122. -/
def execStep2 (s : State) : Outcome :=
  writeStep s .c (stepValue F1 s.work.c s.work.d s.work.a s.work.b s.work.x[2] 0x242070db 17)

/-- R123. -/
def execStep3 (s : State) : Outcome :=
  writeStep s .b (stepValue F1 s.work.b s.work.c s.work.d s.work.a s.work.x[3] 0xc1bdceee 22)

/-- R124. -/
def execStep4 (s : State) : Outcome :=
  writeStep s .a (stepValue F1 s.work.a s.work.b s.work.c s.work.d s.work.x[4] 0xf57c0faf 7)

/-- R125. -/
def execStep5 (s : State) : Outcome :=
  writeStep s .d (stepValue F1 s.work.d s.work.a s.work.b s.work.c s.work.x[5] 0x4787c62a 12)

/-- R126. -/
def execStep6 (s : State) : Outcome :=
  writeStep s .c (stepValue F1 s.work.c s.work.d s.work.a s.work.b s.work.x[6] 0xa8304613 17)

/-- R127. -/
def execStep7 (s : State) : Outcome :=
  writeStep s .b (stepValue F1 s.work.b s.work.c s.work.d s.work.a s.work.x[7] 0xfd469501 22)

/-- R128. -/
def execStep8 (s : State) : Outcome :=
  writeStep s .a (stepValue F1 s.work.a s.work.b s.work.c s.work.d s.work.x[8] 0x698098d8 7)

/-- R129. -/
def execStep9 (s : State) : Outcome :=
  writeStep s .d (stepValue F1 s.work.d s.work.a s.work.b s.work.c s.work.x[9] 0x8b44f7af 12)

/-- R130. -/
def execStep10 (s : State) : Outcome :=
  writeStep s .c (stepValue F1 s.work.c s.work.d s.work.a s.work.b s.work.x[10] 0xffff5bb1 17)

/-- R131. -/
def execStep11 (s : State) : Outcome :=
  writeStep s .b (stepValue F1 s.work.b s.work.c s.work.d s.work.a s.work.x[11] 0x895cd7be 22)

/-- R132. -/
def execStep12 (s : State) : Outcome :=
  writeStep s .a (stepValue F1 s.work.a s.work.b s.work.c s.work.d s.work.x[12] 0x6b901122 7)

/-- R133. -/
def execStep13 (s : State) : Outcome :=
  writeStep s .d (stepValue F1 s.work.d s.work.a s.work.b s.work.c s.work.x[13] 0xfd987193 12)

/-- R134. -/
def execStep14 (s : State) : Outcome :=
  writeStep s .c (stepValue F1 s.work.c s.work.d s.work.a s.work.b s.work.x[14] 0xa679438e 17)

/-- R135. -/
def execStep15 (s : State) : Outcome :=
  writeStep s .b (stepValue F1 s.work.b s.work.c s.work.d s.work.a s.work.x[15] 0x49b40821 22)

/-- R136. -/
def execStep16 (s : State) : Outcome :=
  writeStep s .a (stepValue F2 s.work.a s.work.b s.work.c s.work.d s.work.x[1] 0xf61e2562 5)

/-- R137. -/
def execStep17 (s : State) : Outcome :=
  writeStep s .d (stepValue F2 s.work.d s.work.a s.work.b s.work.c s.work.x[6] 0xc040b340 9)

/-- R138. -/
def execStep18 (s : State) : Outcome :=
  writeStep s .c (stepValue F2 s.work.c s.work.d s.work.a s.work.b s.work.x[11] 0x265e5a51 14)

/-- R139. -/
def execStep19 (s : State) : Outcome :=
  writeStep s .b (stepValue F2 s.work.b s.work.c s.work.d s.work.a s.work.x[0] 0xe9b6c7aa 20)

/-- R140. -/
def execStep20 (s : State) : Outcome :=
  writeStep s .a (stepValue F2 s.work.a s.work.b s.work.c s.work.d s.work.x[5] 0xd62f105d 5)

/-- R141. -/
def execStep21 (s : State) : Outcome :=
  writeStep s .d (stepValue F2 s.work.d s.work.a s.work.b s.work.c s.work.x[10] 0x02441453 9)

/-- R142. -/
def execStep22 (s : State) : Outcome :=
  writeStep s .c (stepValue F2 s.work.c s.work.d s.work.a s.work.b s.work.x[15] 0xd8a1e681 14)

/-- R143. -/
def execStep23 (s : State) : Outcome :=
  writeStep s .b (stepValue F2 s.work.b s.work.c s.work.d s.work.a s.work.x[4] 0xe7d3fbc8 20)

/-- R144. -/
def execStep24 (s : State) : Outcome :=
  writeStep s .a (stepValue F2 s.work.a s.work.b s.work.c s.work.d s.work.x[9] 0x21e1cde6 5)

/-- R145. -/
def execStep25 (s : State) : Outcome :=
  writeStep s .d (stepValue F2 s.work.d s.work.a s.work.b s.work.c s.work.x[14] 0xc33707d6 9)

/-- R146. -/
def execStep26 (s : State) : Outcome :=
  writeStep s .c (stepValue F2 s.work.c s.work.d s.work.a s.work.b s.work.x[3] 0xf4d50d87 14)

/-- R147. -/
def execStep27 (s : State) : Outcome :=
  writeStep s .b (stepValue F2 s.work.b s.work.c s.work.d s.work.a s.work.x[8] 0x455a14ed 20)

/-- R148. -/
def execStep28 (s : State) : Outcome :=
  writeStep s .a (stepValue F2 s.work.a s.work.b s.work.c s.work.d s.work.x[13] 0xa9e3e905 5)

/-- R149. -/
def execStep29 (s : State) : Outcome :=
  writeStep s .d (stepValue F2 s.work.d s.work.a s.work.b s.work.c s.work.x[2] 0xfcefa3f8 9)

/-- R150. -/
def execStep30 (s : State) : Outcome :=
  writeStep s .c (stepValue F2 s.work.c s.work.d s.work.a s.work.b s.work.x[7] 0x676f02d9 14)

/-- R151. -/
def execStep31 (s : State) : Outcome :=
  writeStep s .b (stepValue F2 s.work.b s.work.c s.work.d s.work.a s.work.x[12] 0x8d2a4c8a 20)

/-- R152. -/
def execStep32 (s : State) : Outcome :=
  writeStep s .a (stepValue F3 s.work.a s.work.b s.work.c s.work.d s.work.x[5] 0xfffa3942 4)

/-- R153. -/
def execStep33 (s : State) : Outcome :=
  writeStep s .d (stepValue F3 s.work.d s.work.a s.work.b s.work.c s.work.x[8] 0x8771f681 11)

/-- R154. -/
def execStep34 (s : State) : Outcome :=
  writeStep s .c (stepValue F3 s.work.c s.work.d s.work.a s.work.b s.work.x[11] 0x6d9d6122 16)

/-- R155. -/
def execStep35 (s : State) : Outcome :=
  writeStep s .b (stepValue F3 s.work.b s.work.c s.work.d s.work.a s.work.x[14] 0xfde5380c 23)

/-- R156. -/
def execStep36 (s : State) : Outcome :=
  writeStep s .a (stepValue F3 s.work.a s.work.b s.work.c s.work.d s.work.x[1] 0xa4beea44 4)

/-- R157. -/
def execStep37 (s : State) : Outcome :=
  writeStep s .d (stepValue F3 s.work.d s.work.a s.work.b s.work.c s.work.x[4] 0x4bdecfa9 11)

/-- R158. -/
def execStep38 (s : State) : Outcome :=
  writeStep s .c (stepValue F3 s.work.c s.work.d s.work.a s.work.b s.work.x[7] 0xf6bb4b60 16)

/-- R159. -/
def execStep39 (s : State) : Outcome :=
  writeStep s .b (stepValue F3 s.work.b s.work.c s.work.d s.work.a s.work.x[10] 0xbebfbc70 23)

/-- R160. -/
def execStep40 (s : State) : Outcome :=
  writeStep s .a (stepValue F3 s.work.a s.work.b s.work.c s.work.d s.work.x[13] 0x289b7ec6 4)

/-- R161. -/
def execStep41 (s : State) : Outcome :=
  writeStep s .d (stepValue F3 s.work.d s.work.a s.work.b s.work.c s.work.x[0] 0xeaa127fa 11)

/-- R162. -/
def execStep42 (s : State) : Outcome :=
  writeStep s .c (stepValue F3 s.work.c s.work.d s.work.a s.work.b s.work.x[3] 0xd4ef3085 16)

/-- R163. -/
def execStep43 (s : State) : Outcome :=
  writeStep s .b (stepValue F3 s.work.b s.work.c s.work.d s.work.a s.work.x[6] 0x04881d05 23)

/-- R164. -/
def execStep44 (s : State) : Outcome :=
  writeStep s .a (stepValue F3 s.work.a s.work.b s.work.c s.work.d s.work.x[9] 0xd9d4d039 4)

/-- R165. -/
def execStep45 (s : State) : Outcome :=
  writeStep s .d (stepValue F3 s.work.d s.work.a s.work.b s.work.c s.work.x[12] 0xe6db99e5 11)

/-- R166. -/
def execStep46 (s : State) : Outcome :=
  writeStep s .c (stepValue F3 s.work.c s.work.d s.work.a s.work.b s.work.x[15] 0x1fa27cf8 16)

/-- R167. -/
def execStep47 (s : State) : Outcome :=
  writeStep s .b (stepValue F3 s.work.b s.work.c s.work.d s.work.a s.work.x[2] 0xc4ac5665 23)

/-- R168. -/
def execStep48 (s : State) : Outcome :=
  writeStep s .a (stepValue F4 s.work.a s.work.b s.work.c s.work.d s.work.x[0] 0xf4292244 6)

/-- R169. -/
def execStep49 (s : State) : Outcome :=
  writeStep s .d (stepValue F4 s.work.d s.work.a s.work.b s.work.c s.work.x[7] 0x432aff97 10)

/-- R170. -/
def execStep50 (s : State) : Outcome :=
  writeStep s .c (stepValue F4 s.work.c s.work.d s.work.a s.work.b s.work.x[14] 0xab9423a7 15)

/-- R171. -/
def execStep51 (s : State) : Outcome :=
  writeStep s .b (stepValue F4 s.work.b s.work.c s.work.d s.work.a s.work.x[5] 0xfc93a039 21)

/-- R172. -/
def execStep52 (s : State) : Outcome :=
  writeStep s .a (stepValue F4 s.work.a s.work.b s.work.c s.work.d s.work.x[12] 0x655b59c3 6)

/-- R173. -/
def execStep53 (s : State) : Outcome :=
  writeStep s .d (stepValue F4 s.work.d s.work.a s.work.b s.work.c s.work.x[3] 0x8f0ccc92 10)

/-- R174. -/
def execStep54 (s : State) : Outcome :=
  writeStep s .c (stepValue F4 s.work.c s.work.d s.work.a s.work.b s.work.x[10] 0xffeff47d 15)

/-- R175. -/
def execStep55 (s : State) : Outcome :=
  writeStep s .b (stepValue F4 s.work.b s.work.c s.work.d s.work.a s.work.x[1] 0x85845dd1 21)

/-- R176. -/
def execStep56 (s : State) : Outcome :=
  writeStep s .a (stepValue F4 s.work.a s.work.b s.work.c s.work.d s.work.x[8] 0x6fa87e4f 6)

/-- R177. -/
def execStep57 (s : State) : Outcome :=
  writeStep s .d (stepValue F4 s.work.d s.work.a s.work.b s.work.c s.work.x[15] 0xfe2ce6e0 10)

/-- R178. -/
def execStep58 (s : State) : Outcome :=
  writeStep s .c (stepValue F4 s.work.c s.work.d s.work.a s.work.b s.work.x[6] 0xa3014314 15)

/-- R179. -/
def execStep59 (s : State) : Outcome :=
  writeStep s .b (stepValue F4 s.work.b s.work.c s.work.d s.work.a s.work.x[13] 0x4e0811a1 21)

/-- R180. -/
def execStep60 (s : State) : Outcome :=
  writeStep s .a (stepValue F4 s.work.a s.work.b s.work.c s.work.d s.work.x[4] 0xf7537e82 6)

/-- R181. -/
def execStep61 (s : State) : Outcome :=
  writeStep s .d (stepValue F4 s.work.d s.work.a s.work.b s.work.c s.work.x[11] 0xbd3af235 10)

/-- R182. -/
def execStep62 (s : State) : Outcome :=
  writeStep s .c (stepValue F4 s.work.c s.work.d s.work.a s.work.b s.work.x[2] 0x2ad7d2bb 15)

/-- R183. -/
def execStep63 (s : State) : Outcome :=
  writeStep s .b (stepValue F4 s.work.b s.work.c s.work.d s.work.a s.work.x[9] 0xeb86d391 21)

end Sys2Proof.Machine
end

