-- ==== Sys2Proof/Machine/Engine.lean ====
section
/-! DEFINITION. The Digest Engine (spec/41_digest_engine.md): `absorb` (R202), `INIT` (R201), `UPDATE` (R203), the padding (R204)
and `FINAL` (R205, R206). -/

namespace Sys2Proof.Machine

/-- R202: one byte: to `BUF[fill]`, the count up by 8, the block compressed the moment its 64th byte is stored. -/
def absorbByte (c : Context) (v : Byte) : Context :=
  let buf := c.buf.set (fill c.cnt) v (fill_lt c.cnt)
  { h := if fill c.cnt = 63 then compress c.h buf else c.h, buf := buf, cnt := c.cnt + 8 }

/-- R202: `absorb`, byte by byte in order. -/
def absorb (c : Context) (bytes : List Byte) : Context := bytes.foldl absorbByte c

/-- R204: the length of marker and zero run at fill `f`. -/
def padLength (f : Nat) : Nat := if f < 56 then 56 - f else 120 - f

/-- R204, R205: the marker 0x80 and the zero run. -/
def padding (f : Nat) : List Byte := 0x80 :: List.replicate (padLength f - 1) 0

/-- R201: `INIT`: the four constants, the count 0, the phase ACCUM; `BUF` is not written. Legal in every phase (R200). -/
def execInit (s : State) : Outcome :=
  .next (endCommand { s with ctx := { s.ctx with h := initialDigestState, cnt := 0 }, phase := .accum })

/-- R203: `UPDATE`: absorbs the payload in ACCUM, raises StateFault in the other phases. -/
def execUpdate (payload : List Byte) (s : State) : Outcome :=
  if s.phase = .accum then .next (endCommand { s with ctx := absorb s.ctx payload })
  else .next (raiseStateFault s)

/-- R205: the padding of the latched count, then the eight length bytes, which complete the last block. -/
def absorbPadding (s : State) : State :=
  { s with ctx := absorb (absorb s.ctx (padding (fill s.latch))) (bytesLE64 s.latch) }

/-- R205: the digest is serialised from `H` and the flags follow. -/
def produceDigest (s : State) : State := State.flagsAfterFinal { s with digest := serialise s.ctx.h }

/-- R205: `FINAL` in ACCUM: latch, pad, produce the digest, zeroise, FINALIZED. -/
def finalise (s : State) : State :=
  { zeroise (produceDigest (absorbPadding (latchCount s))) with phase := .finalized }

/-- R205: `FINAL`: raises StateFault outside ACCUM. -/
def execFinal (s : State) : Outcome :=
  if s.phase = .accum then .next (endCommand (finalise s)) else .next (raiseStateFault s)

end Sys2Proof.Machine
end

