-- ==== Sys2Proof/Machine/HexCodec.lean ====
section
/-! DEFINITION. The Hex Codec (spec/42_hex_codec.md): the character functions (R230), `HEXENC` (R231), `HEXDEC` (R232), `HEXCMP`
(R233). -/

namespace Sys2Proof.Machine

/-- R230: the lower-case character of a nibble. -/
def hexChar (n : BitVec 4) : Byte := if n ≤ 9 then 0x30 + n.setWidth 8 else 0x57 + n.setWidth 8

/-- R230: the nibble of a character of the HexDigest alphabet, none for every other byte. -/
def hexVal (c : Byte) : Option (BitVec 4) :=
  if 0x30 ≤ c ∧ c ≤ 0x39 then some ((c - 0x30).setWidth 4)
  else if 0x61 ≤ c ∧ c ≤ 0x66 then some ((c - 0x57).setWidth 4)
  else none

/-- R231, R84: the 32 characters of 16 bytes: each byte's high nibble first. -/
def toHex (d : Vector Byte 16) : Vector Byte 32 :=
  Vector.ofFn fun j : Fin 32 =>
    if j.val % 2 = 0 then hexChar (d[j.val / 2].extractLsb' 4 4) else hexChar (d[j.val / 2].extractLsb' 0 4)

/-- R232: the byte of the two characters at `2i` and `2i+1`. -/
def hexByte (s : List Byte) (i : Nat) : Byte :=
  ((s[2 * i]?.bind hexVal).getD 0) ++ ((s[2 * i + 1]?.bind hexVal).getD 0)

/-- R232: `from_hex`: the 16 bytes of a string of exactly 32 characters of the alphabet, none for any other string. -/
def fromHex (s : List Byte) : Option (Vector Byte 16) :=
  if s.length = 32 ∧ s.all (fun c => (hexVal c).isSome) then some (Vector.ofFn fun i : Fin 16 => hexByte s i.val) else none

/-- R231: `HEXENC`: raises StateFault while no digest is valid. -/
def execHexenc (s : State) : Outcome :=
  if s.digestValid then .next (endCommand { s with hex := toHex s.digest, hexValid := true })
  else .next (raiseStateFault s)

/-- R232: `HEXDEC`: a malformed string is a reported outcome, not a fault. -/
def execHexdec (payload : List Byte) (s : State) : Outcome :=
  match fromHex payload with
  | some bytes => .next (endCommand { s with raw := bytes, rawValid := true })
  | none => .next (endCommand { s with raw := Vector.replicate 16 0, rawValid := false })

/-- R233: `HEXCMP` writes `MATCH` only. -/
def execHexcmp (payload : List Byte) (s : State) : Outcome :=
  .next (endCommand { s with matched := compareFlag s payload })

end Sys2Proof.Machine
end

