-- ==== Sys2Proof/Machine/Fetch.lean ====
section
/-! DEFINITION. Where the next operation comes from: the compressor's step index while a `compress` is in progress (R78, R113), else
the command stream (R70). And how a code is placed there. -/

namespace Sys2Proof.Machine

/-- What the core finds to do next. -/
inductive Fetched where
  /-- R252: halted by an illegal opcode. -/
  | halted
  /-- R78: a `compress` is in progress at this step index. -/
  | internal (t : BitVec 6)
  /-- R70: a whole command stands at the head of the stream. -/
  | command (i : Instr) (rest : List Byte)
  /-- R76: an illegal opcode stands there. -/
  | illegal (op : Byte) (rest : List Byte)
  /-- R262, R271: no byte has come since the last command boundary. -/
  | idle
  /-- R77: a command stands there that is not whole. -/
  | truncated (position : Position)
  deriving DecidableEq, Repr

/-- R70, R76, R77, R78, R252: the fetch. -/
def fetch (s : State) : Fetched :=
  if s.errIllegal then .halted
  else
    match s.stepIndex with
    | some t => .internal t
    | none =>
      match decodeCommand s.input with
      | .instr i rest => .command i rest
      | .illegal op rest => .illegal op rest
      | .waiting position => if position = .opcode then .idle else .truncated position

/-- Log entry 5: put a code where the next step fetches: command bytes at the head of the stream at a command boundary, a step index
in the compressor. A halt is lifted, since a halted core fetches nothing. -/
def placeCode (s : State) : Code → State
  | .bytes bs => { s with input := bs ++ s.input, stepIndex := none, errIllegal := false }
  | .selector t => { s with stepIndex := some t, errIllegal := false }

end Sys2Proof.Machine
end

