-- ==== Sys2Proof/Machine/Step.lean ====
section
/-! DEFINITION. One step of the core: one whole host command (R58: every command is one transition), one illegal opcode, or one
internal step of a `compress` in progress. -/

namespace Sys2Proof.Machine

/-- R58, R60, R113: the step. An idle core executes nothing (R271); a halted or starved one has no step (R252, R77). -/
def step (s : State) : Host.Outcome State Fault Refusal :=
  match fetch s with
  | .halted => .fault .halted
  | .internal t => mapNext (advanceStep t) (exec (decodeStep t) s)
  | .command i rest => exec i (consume s rest)
  | .illegal _ rest => .next (raiseIllegalCommand (consume s rest))
  | .idle => .next s
  | .truncated _ => .fault .truncatedCommand

/-- The state whose next step fetches and runs the instruction of a table word (log entries 4 and 5). -/
def State.withFetchWord (s : State) (nbits w : Nat) : State := placeCode s (tableCode nbits w)

end Sys2Proof.Machine
end

