-- ==== Sys2Proof/Machine/Assembler.lean ====
section
/-! DEFINITION. The assembly text of a command stream (spec/30_encoding.md R79) and the pseudo-instructions (R80). It runs outside the
core: it only makes byte streams. White space and the case of hexadecimal digits, on which R79 is silent: log entry 6. -/

namespace Sys2Proof.Machine

/-- What one line stands for: a command or a pseudo-instruction. -/
inductive AsmItem where
  | command (i : Instr)
  | digest (message : List Byte)
  | verify (message reference : List Byte)
  deriving DecidableEq, Repr

/-- Why the assembler refuses a line. -/
inductive AsmError where
  /-- R79, R80: no such mnemonic. -/
  | unknownMnemonic
  /-- R79: the operand is missing or is no byte string. -/
  | badOperand
  /-- R79: the operand is longer than the length field can say. -/
  | operandTooLong
  /-- R79: something other than a comment follows. -/
  | trailingText
  deriving DecidableEq, Repr

/-- The result of assembling. -/
abbrev AsmResult := Except AsmError

def isBlankChar (c : Char) : Bool := c == ' ' || c == '\t'

def skipBlanks (text : List Char) : List Char := text.dropWhile isBlankChar

/-- R79: `;` starts a comment. -/
def blankOrComment (text : List Char) : Bool :=
  match skipBlanks text with
  | [] => true
  | c :: _ => c == ';'

/-- The value of a hexadecimal digit of the text. -/
def textHexDigit (c : Char) : Option Nat :=
  if '0' ≤ c ∧ c ≤ '9' then some (c.toNat - 48)
  else if 'a' ≤ c ∧ c ≤ 'f' then some (c.toNat - 87)
  else if 'A' ≤ c ∧ c ≤ 'F' then some (c.toNat - 55)
  else none

/-- The byte two hexadecimal digits of the text give. -/
def textHexByte (high low : Char) : Option Byte :=
  match textHexDigit high, textHexDigit low with
  | some h, some l => some (BitVec.ofNat 8 (16 * h + l))
  | _, _ => none

/-- R79: the characters a quoted string may hold as themselves: 0x20 to 0x7E except the quote and the backslash. -/
def isPlainChar (c : Char) : Bool := 0x20 ≤ c.toNat && c.toNat ≤ 0x7e && c != '"' && c != '\\'

/-- R79: the bytes of `"..."` after its opening quote, and the text after its closing one. -/
def quotedBytes : List Char → Option (List Byte × List Char)
  | [] => none
  | '"' :: rest => some ([], rest)
  | '\\' :: 'x' :: h :: l :: rest =>
    match textHexByte h l, quotedBytes rest with
    | some b, some (bytes, after) => some (b :: bytes, after)
    | _, _ => none
  | c :: rest =>
    if isPlainChar c then (quotedBytes rest).map fun r => (BitVec.ofNat 8 c.toNat :: r.1, r.2) else none

/-- R79: the bytes of `x"..."` after its opening quote, and the text after its closing one. -/
def hexQuotedBytes : List Char → Option (List Byte × List Char)
  | '"' :: rest => some ([], rest)
  | h :: l :: rest =>
    match textHexByte h l, hexQuotedBytes rest with
    | some b, some (bytes, after) => some (b :: bytes, after)
    | _, _ => none
  | _ => none

/-- R79: one byte-string operand, and the text after it. -/
def byteString (text : List Char) : Option (List Byte × List Char) :=
  match skipBlanks text with
  | 'x' :: '"' :: rest => hexQuotedBytes rest
  | '"' :: rest => quotedBytes rest
  | _ => none

/-- R79: a command without operand. -/
def lineWithoutOperand (i : Instr) (rest : List Char) : AsmResult (Option AsmItem) :=
  if blankOrComment rest then .ok (some (.command i)) else .error .trailingText

/-- R79: a command with one byte string, refused when it is longer than the limit. -/
def lineWithOperand (make : List Byte → AsmItem) (rest : List Char) (fits : List Byte → Bool) : AsmResult (Option AsmItem) :=
  match byteString rest with
  | none => .error .badOperand
  | some (bytes, after) =>
    if !fits bytes then .error .operandTooLong
    else if blankOrComment after then .ok (some (make bytes))
    else .error .trailingText

/-- R80: `VERIFY s, h`. -/
def lineVerify (rest : List Char) : AsmResult (Option AsmItem) :=
  match byteString rest with
  | none => .error .badOperand
  | some (message, after) =>
    match skipBlanks after with
    | ',' :: after' => lineWithOperand (AsmItem.verify message) after' fun h => (Instr.hexcmp h).wellFormed
    | _ => .error .badOperand

/-- R79: mnemonics are upper case. -/
def isMnemonicChar (c : Char) : Bool := 'A' ≤ c && c ≤ 'Z'

/-- R79, R80: one line of assembly; a blank line or a comment stands for nothing. -/
def assembleLine (line : List Char) : AsmResult (Option AsmItem) :=
  let text := skipBlanks line
  if blankOrComment text then .ok none
  else
    let name := text.takeWhile isMnemonicChar
    let rest := text.dropWhile isMnemonicChar
    if name = ['I', 'N', 'I', 'T'] then lineWithoutOperand .init rest
    else if name = ['F', 'I', 'N', 'A', 'L'] then lineWithoutOperand .final rest
    else if name = ['H', 'E', 'X', 'E', 'N', 'C'] then lineWithoutOperand .hexenc rest
    else if name = ['U', 'P', 'D', 'A', 'T', 'E'] then
      lineWithOperand (fun p => .command (.update p)) rest fun p => (Instr.update p).wellFormed
    else if name = ['H', 'E', 'X', 'D', 'E', 'C'] then
      lineWithOperand (fun p => .command (.hexdec p)) rest fun p => (Instr.hexdec p).wellFormed
    else if name = ['H', 'E', 'X', 'C', 'M', 'P'] then
      lineWithOperand (fun p => .command (.hexcmp p)) rest fun p => (Instr.hexcmp p).wellFormed
    else if name = ['D', 'I', 'G', 'E', 'S', 'T'] then lineWithOperand AsmItem.digest rest fun _ => true
    else if name = ['V', 'E', 'R', 'I', 'F', 'Y'] then lineVerify rest
    else .error .unknownMnemonic

/-- R80: the successive pieces of a message, each 65535 bytes but the last; `n` bounds their number. -/
def messagePieces : Nat → List Byte → List (List Byte)
  | 0, _ => []
  | _ + 1, [] => []
  | n + 1, b :: bytes => (b :: bytes).take 65535 :: messagePieces n ((b :: bytes).drop 65535)

/-- R80: `DIGEST s`. -/
def expandDigest (message : List Byte) : List Instr :=
  .init :: (messagePieces message.length message).map Instr.update ++ [.final]

/-- R80: `VERIFY s, h`. -/
def expandVerify (message reference : List Byte) : List Instr :=
  expandDigest message ++ [.hexenc, .hexcmp reference]

/-- R80: the commands an item expands to. -/
def AsmItem.expand : AsmItem → List Instr
  | .command i => [i]
  | .digest message => expandDigest message
  | .verify message reference => expandVerify message reference

/-- R79: a text, one command per line. -/
def assemble : List (List Char) → AsmResult (List Instr)
  | [] => .ok []
  | line :: lines =>
    match assembleLine line, assemble lines with
    | .ok (some item), .ok is => .ok (item.expand ++ is)
    | .ok none, .ok is => .ok is
    | .ok _, .error e => .error e
    | .error e, _ => .error e

end Sys2Proof.Machine
end

