-- ==== Sys2Proof/Machine/Md5.lean ====
section
/-! DEFINITION. The digest function the engine computes (spec/41_digest_engine.md R208, spec/30_encoding.md R82), written from the
padded message and its blocks, apart from the engine: claims compare the engine with it. -/

namespace Sys2Proof.Machine

/-- R22: the message bytes held since the last block boundary, `BUF[0..fill-1]`. -/
def buffered (c : Context) : List Byte := c.buf.toList.take (fill c.cnt)

/-- R81: the first 64 bytes as a block. -/
def toBlock (bytes : List Byte) : Block := Vector.ofFn fun i : Fin 64 => bytes.getD i.val 0

/-- R208: `S <- compress(S, block)` for the first `n` blocks of a byte sequence, in order. -/
def compressBlocks : Nat → DigestState → List Byte → DigestState
  | 0, h, _ => h
  | n + 1, h, bytes => compressBlocks n (compress h (toBlock bytes)) (bytes.drop 64)

/-- R82: the padded message; the zero run is `(55 - n) mod 64` bytes. -/
def paddedMessage (m : List Byte) : List Byte :=
  m ++ [0x80] ++ List.replicate ((119 - m.length % 64) % 64) 0 ++ bytesLE64 (BitVec.ofNat 64 (8 * m.length))

/-- R82: the number of blocks of the padded message of `n` bytes. -/
def blockCount (n : Nat) : Nat := (n + 8) / 64 + 1

/-- R208, R209: the digest of a message. -/
def md5 (m : List Byte) : Vector Byte 16 :=
  serialise (compressBlocks (blockCount m.length) initialDigestState (paddedMessage m))

end Sys2Proof.Machine
end

