-- ==== Sys2Proof/Machine/Counts.lean ====
section
/-! DEFINITION. The structural counts (spec/70_reset_and_hazards.md R276, R275): how many times `compress` runs in a command. Work,
not time; no step depends on them. -/

namespace Sys2Proof.Machine

/-- R202, R276: the `compress` calls of an `absorb`: one for every byte stored at index 63. -/
def absorbCompressions (c : Context) : List Byte → Nat
  | [] => 0
  | v :: bytes => (if fill c.cnt = 63 then 1 else 0) + absorbCompressions (absorbByte c v) bytes

/-- R276: the `compress` calls of `UPDATE` in ACCUM. -/
def updateCompressions (s : State) (payload : List Byte) : Nat := absorbCompressions s.ctx payload

/-- R276, R204: the `compress` calls of `FINAL` in ACCUM. -/
def finalCompressions (s : State) : Nat :=
  absorbCompressions s.ctx (padding (fill s.ctx.cnt) ++ bytesLE64 s.ctx.cnt)

end Sys2Proof.Machine
end

