-- ==== Sys2Proof/Machine/Ports.lean ====
section
/-! DEFINITION. What the host can observe (spec/20_memory.md R55, R56, R58; spec/00_scope.md R16): four read-only outputs and whether
a further byte is accepted, at command boundaries only. Reading changes nothing, so every output is a function of the state. -/

namespace Sys2Proof.Machine

/-- R56: byte `i` of an array at bits 8i+7 to 8i. -/
def lanes (bytes : List Byte) : Nat := bytes.foldr (fun b acc => b.toNat + 256 * acc) 0

/-- R56: `status[7:0]`. -/
def statusPort (s : State) : BitVec 8 := status s

/-- R56: `digest[127:0]`. -/
def digestPort (s : State) : BitVec 128 := BitVec.ofNat 128 (lanes s.digest.toList)

/-- R56: `hex[255:0]`. -/
def hexPort (s : State) : BitVec 256 := BitVec.ofNat 256 (lanes s.hex.toList)

/-- R56: `raw[127:0]`. -/
def rawPort (s : State) : BitVec 128 := BitVec.ofNat 128 (lanes s.raw.toList)

/-- R16, R252: whether the core accepts a further byte; a halted core holds `cmd_ready` at 0. -/
def acceptsByte (s : State) : Bool := !s.errIllegal

/-- R58: the decoder expects an opcode and no `compress` is in progress, or the core is halted. DESIGN CHOICE (log entry 3): a whole
command, or an illegal opcode, that stands in `State.input` and no step has taken counts as not yet transferred, so the state before it
is at a command boundary; the bytes of a command that is not whole count as transferred, so it is not. -/
def atBoundary (s : State) : Bool :=
  match fetch s with
  | .internal _ => false
  | .truncated _ => false
  | .halted => true
  | .command _ _ => true
  | .illegal _ _ => true
  | .idle => true

/-- R16: everything the host can observe. -/
structure Outputs where
  status : BitVec 8
  digest : BitVec 128
  hex : BitVec 256
  raw : BitVec 128
  accepts : Bool
  deriving DecidableEq, Repr

/-- The values the ports are driven with. -/
def outputs (s : State) : Outputs := ⟨statusPort s, digestPort s, hexPort s, rawPort s, acceptsByte s⟩

/-- R56, R58: the observation; inside a command the outputs are unspecified (U10) and there is none. With
untaken whole commands in `State.input` it shows the registers from before them (DESIGN CHOICE, log entry 3). -/
def observe (s : State) : Option Outputs := if atBoundary s then some (outputs s) else none

end Sys2Proof.Machine
end

