-- ==== Sys2Proof/Machine/Environment.lean ====
section
/-! DEFINITION. What the host does to the core: it transfers bytes (spec/20_memory.md R55) and resets
(spec/70_reset_and_hazards.md R270). -/

namespace Sys2Proof.Machine

/-- R55, R252: the host transfers bytes, in order; a halted core takes none. -/
def transfer (s : State) (bytes : List Byte) : State :=
  if s.errIllegal then s else { s with input := s.input ++ bytes }

/-- R270, R271: reset, at any time: every register and the hidden state to the reset value, the command in progress and the bytes
received forgotten. Only the model's own numbering of free values goes on (log entry 2). -/
def applyReset (s : State) : State := { State.reset with boundaryCount := s.boundaryCount }

end Sys2Proof.Machine
end

