-- ==== Sys2Proof/Safety.lean ====
section
/-! DEFINITION. What counts as a good state and a good end of a run, and the relations claims about secrecy use. -/

namespace Sys2Proof.Machine

/-- R35: the invariants of a command boundary, with the one that extends them inside a `compress`: it runs only in ACCUM
(R203, R205 raise StateFault elsewhere; log entry 1). -/
structure BoundaryInvariant (s : State) : Prop where
  /-- R35 (i). -/
  cntMultipleOf8 : s.ctx.cnt.toNat % 8 = 0
  /-- R35 (iii). -/
  contextZeroOutsideAccum : s.phase ≠ .accum → s.ctx = .zero
  /-- R35 (iv). -/
  finalizedHasDigest : s.phase = .finalized → s.digestValid = true
  /-- R35 (v). -/
  freshHasNoResult : s.phase = .fresh → s.digestValid = false ∧ s.hexValid = false ∧ s.matched = false
  /-- R35 (vi). -/
  hexIsOfDigest : s.hexValid = true → s.digestValid = true ∧ s.hex = toHex s.digest
  /-- R35 (vii). -/
  matchNeedsHex : s.matched = true → s.hexValid = true
  /-- R35 (viii). -/
  rawZeroUnlessValid : s.rawValid = false → s.raw = Vector.replicate 16 0
  /-- R12, R200: no `compress` runs outside ACCUM. -/
  compressOnlyInAccum : s.stepIndex ≠ none → s.phase = .accum

/-- R274: a run has ended normally: every byte taken, at a command boundary, no fault recorded. -/
def endedNormally (s : State) : Bool :=
  decide (s.input = []) && decide (s.stepIndex = none) && !s.errState && !s.errIllegal

/-- Commands executed one after the other by `exec`. -/
def execAll : List Instr → State → Outcome
  | [], s => .next s
  | i :: is, s =>
    match exec i s with
    | .next t => execAll is t
    | .fault r => .fault r
    | .refused r => .refused r

/-- R33: a state without its hidden working state and the numbering of its free values. -/
def forgetHidden (s : State) : State := { s with work := .zero, latch := 0, boundaryCount := 0 }

/-- R33: two states that differ at most in the hidden working state. -/
def SameButHidden (s t : State) : Prop := forgetHidden s = forgetHidden t

/-- R20, R259: a state without its engine context as well. -/
def forgetContext (s : State) : State := { forgetHidden s with ctx := .zero }

/-- R16, R259: two states that differ at most in what no port shows: the context and the hidden working state. -/
def SameButContext (s t : State) : Prop := forgetContext s = forgetContext t

/-- R74, R78: the six host commands, as against the internal steps. -/
def isCommand (i : Instr) : Bool :=
  match encode i with
  | .bytes _ => true
  | .selector _ => false

end Sys2Proof.Machine
end

