-- ==== Sys2Proof/Certificates/Slice0/Obligations.lean ====
section
/-! DEFINITION. The statements for the provers, each formalising rules of spec/. Where a next state stands under `endCommand`, the
hidden working state of that next state is what the spec leaves unspecified at a command boundary (R33), in the model's form: free values
(log entry 2). No statement rests on their value. -/

open Sys2Proof Sys2Proof.Machine

/-! ### Encoding -/

/-- R70 to R75, R78: decoding the code of a well-formed instruction gives it back, whatever bytes follow a command. -/
def Obligations.DecodeOfEncodeReturnsInstruction : Prop :=
  ∀ i, WellFormed i →
    (∀ bs, encode i = .bytes bs → ∀ rest, decode (.bytes (bs ++ rest)) = .instr i rest) ∧
    (∀ t, encode i = .selector t → decode (.selector t) = .instr i [])

/-- R70 to R76, R78: what the decoder accepts is exactly the code of a well-formed instruction: no bit of the consumed bytes is
dropped, and every step index selects the operation it encodes. -/
def Obligations.EncodeOfDecodeReturnsCode : Prop :=
  (∀ (bs : List Byte) (i : Instr) (rest : List Byte), decodeCommand bs = .instr i rest → WellFormed i ∧ ∃ e, encode i = .bytes e ∧ bs = e ++ rest) ∧
  (∀ t, WellFormed (decodeStep t) ∧ encode (decodeStep t) = .selector t)

/-- R77: a truncated command decodes to a wait; the wait is at a command boundary only when no byte has come. -/
def Obligations.ProperPrefixOfCommandWaits : Prop :=
  ∀ (i : Instr) (bs : List Byte) (n : Nat), WellFormed i → encode i = .bytes bs → n < bs.length →
    ∃ p, decodeCommand (bs.take n) = .waiting p ∧ (p = .opcode ↔ n = 0)

/-- R76: an opcode byte outside the six is illegal whatever follows it, there are 250 of them, and the six are not. -/
def Obligations.UndefinedOpcodesAreIllegal : Prop :=
  (∀ (op : Byte) (rest : List Byte), op ∉ [0x01, 0x02, 0x03, 0x10, 0x11, 0x12] → decodeCommand (op :: rest) = .illegal op rest) ∧
  (∀ (op : Byte) (rest : List Byte), op ∈ [0x01, 0x02, 0x03, 0x10, 0x11, 0x12] →
    ∀ op' rest', decodeCommand (op :: rest) ≠ .illegal op' rest') ∧
  ((List.range 256).filter fun n => BitVec.ofNat 8 n ∉ [0x01, 0x02, 0x03, 0x10, 0x11, 0x12]).length = 250

/-- R71 to R74, R78: a word of every family, written out from its encoding, decodes to the instruction it stands for. -/
def Obligations.SampleWordsDecode : Prop :=
  decode (.bytes [0x01]) = .instr .init [] ∧
  decode (.bytes [0x02, 0x03, 0x00, 0x61, 0x62, 0x63]) = .instr (.update [0x61, 0x62, 0x63]) [] ∧
  decode (.bytes [0x03]) = .instr .final [] ∧
  decode (.bytes [0x10]) = .instr .hexenc [] ∧
  decode (.bytes [0x11, 0x00]) = .instr (.hexdec []) [] ∧
  decode (.bytes [0x12, 0x02, 0x41, 0x42]) = .instr (.hexcmp [0x41, 0x42]) [] ∧
  decode (.selector 0b000000) = .instr .step0 [] ∧
  decode (.selector 0b010001) = .instr .step17 [] ∧
  decode (.selector 0b101110) = .instr .step46 [] ∧
  decode (.selector 0b111111) = .instr .step63 []

/-- The model's choice (log entries 4 and 5): the state prepared for a table word runs the word's instruction at the very next step. -/
def Obligations.FetchWordRunsTableInstruction : Prop :=
  ∀ (s : State) (nbits w : Nat) (i : Instr), decodeTableWord nbits w = some i →
    (isCommand i = true → step (s.withFetchWord nbits w) = exec i { s with stepIndex := none, errIllegal := false }) ∧
    (isCommand i = false → ∃ t, decodeStep t = i ∧
      step (s.withFetchWord nbits w) = mapNext (advanceStep t) (exec i { s with stepIndex := some t, errIllegal := false }))

/-! ### The Block Compressor -/

/-- R102 to R105: the four round functions as the rules write them, the equal forms the rules give, bit by bit (two selections, the
parity, and y against (x or not z)), in 32 bits, and which step index uses which. -/
def Obligations.RoundFunctionsBitByBit : Prop :=
  (∀ x y z : Word,
    F1 x y z = z ^^^ (x &&& (y ^^^ z)) ∧ F1 x y z = (x &&& y) ||| (~~~x &&& z) ∧
    F2 x y z = F1 z x y ∧ F2 x y z = y ^^^ (z &&& (x ^^^ y)) ∧ F2 x y z = (x &&& z) ||| (y &&& ~~~z) ∧
    F3 x y z = x ^^^ y ^^^ z ∧
    F4 x y z = y ^^^ (x ||| ~~~z) ∧ (~~~z).toNat = 0xFFFFFFFF - z.toNat) ∧
  (∀ (x y z : Word) (i : Nat), i < 32 →
    (F1 x y z).getLsbD i = (if x.getLsbD i then y.getLsbD i else z.getLsbD i) ∧
    (F2 x y z).getLsbD i = (if z.getLsbD i then x.getLsbD i else y.getLsbD i) ∧
    (F3 x y z).getLsbD i = ((x.getLsbD i).xor ((y.getLsbD i).xor (z.getLsbD i))) ∧
    (F4 x y z).getLsbD i = ((y.getLsbD i).xor (x.getLsbD i || !z.getLsbD i))) ∧
  (∀ t : BitVec 6, roundFunction (roundOf t) =
    if t.toNat < 16 then F1 else if t.toNat < 32 then F2 else if t.toNat < 48 then F3 else F4)

/-- R10, R101, R26: bytes and words: four bytes make a word with the first least significant, `bytesLE32` undoes it, `bytesLE64` gives
the count's bytes in order, the block's words are the `LE32` of its bytes, and a digest byte is `H[i][8j+7:8j]`. -/
def Obligations.BytesAreLittleEndian : Prop :=
  (∀ b0 b1 b2 b3 : Byte,
    (le32 b0 b1 b2 b3).toNat = b0.toNat + 256 * b1.toNat + 65536 * b2.toNat + 16777216 * b3.toNat ∧
    bytesLE32 (le32 b0 b1 b2 b3) = [b0, b1, b2, b3]) ∧
  (∀ (w : Word) (j : Nat), j < 4 → (bytesLE32 w)[j]? = some (w.extractLsb' (8 * j) 8)) ∧
  (∀ (c : Count) (j : Nat), j < 8 → (bytesLE64 c)[j]? = some (c.extractLsb' (8 * j) 8)) ∧
  (∀ (block : Block) (i : Nat) (h : i < 16), (loadWords block)[i].toNat = block[4 * i].toNat + 256 * block[4 * i + 1].toNat +
    65536 * block[4 * i + 2].toNat + 16777216 * block[4 * i + 3].toNat) ∧
  (∀ (h : DigestState) (j : Nat), j < 4 →
    (serialise h)[j]? = some (h.h0.extractLsb' (8 * j) 8) ∧ (serialise h)[4 + j]? = some (h.h1.extractLsb' (8 * j) 8) ∧
    (serialise h)[8 + j]? = some (h.h2.extractLsb' (8 * j) 8) ∧ (serialise h)[12 + j]? = some (h.h3.extractLsb' (8 * j) 8))

/-- R9, R114: rotation in numbers and bit by bit, and rotating back. -/
def Obligations.RotationLosesNoBit : Prop :=
  ∀ (v : Word) (s : Nat), 1 ≤ s → s ≤ 31 →
    (rotl32 v s).toNat = v.toNat * 2 ^ s % 2 ^ 32 + v.toNat / 2 ^ (32 - s) ∧
    (∀ i < 32, (rotl32 v s).getLsbD ((i + s) % 32) = v.getLsbD i) ∧
    rotl32 (rotl32 v s) (32 - s) = v

/-- R110, R9: the value a step writes, in numbers: the sum reduced modulo 2^32, rotated, plus `x` modulo 2^32. -/
def Obligations.StepValueInNumbers : Prop :=
  ∀ (f : Word → Word → Word → Word) (w x y z m k : Word) (s : Nat), 1 ≤ s → s ≤ 31 →
    let sum := (w.toNat + (f x y z).toNat + m.toNat + k.toNat) % 2 ^ 32
    (stepValue f w x y z m k s).toNat = (sum * 2 ^ s % 2 ^ 32 + sum / 2 ^ (32 - s) + x.toNat) % 2 ^ 32

/-- A step writes the value `val` to the working variable `w` and changes nothing else in the whole state (R110). -/
def stepWrites (i : Instr) (w : WorkVar) (val : Work → Word) : Prop :=
  ∀ s : State, exec i s = .next { s with work := s.work.set (val s.work) w }

/-- R120 to R127: steps 0 to 7, each with its own roles, message word, constant and rotation. -/
def Obligations.Round1FirstHalfStepsWrite : Prop :=
  stepWrites .step0 .a (fun q => q.b + rotl32 (q.a + F1 q.b q.c q.d + q.x[0] + 0xd76aa478) 7) ∧
  stepWrites .step1 .d (fun q => q.a + rotl32 (q.d + F1 q.a q.b q.c + q.x[1] + 0xe8c7b756) 12) ∧
  stepWrites .step2 .c (fun q => q.d + rotl32 (q.c + F1 q.d q.a q.b + q.x[2] + 0x242070db) 17) ∧
  stepWrites .step3 .b (fun q => q.c + rotl32 (q.b + F1 q.c q.d q.a + q.x[3] + 0xc1bdceee) 22) ∧
  stepWrites .step4 .a (fun q => q.b + rotl32 (q.a + F1 q.b q.c q.d + q.x[4] + 0xf57c0faf) 7) ∧
  stepWrites .step5 .d (fun q => q.a + rotl32 (q.d + F1 q.a q.b q.c + q.x[5] + 0x4787c62a) 12) ∧
  stepWrites .step6 .c (fun q => q.d + rotl32 (q.c + F1 q.d q.a q.b + q.x[6] + 0xa8304613) 17) ∧
  stepWrites .step7 .b (fun q => q.c + rotl32 (q.b + F1 q.c q.d q.a + q.x[7] + 0xfd469501) 22)

/-- R128 to R135: steps 8 to 15, each with its own roles, message word, constant and rotation. -/
def Obligations.Round1SecondHalfStepsWrite : Prop :=
  stepWrites .step8 .a (fun q => q.b + rotl32 (q.a + F1 q.b q.c q.d + q.x[8] + 0x698098d8) 7) ∧
  stepWrites .step9 .d (fun q => q.a + rotl32 (q.d + F1 q.a q.b q.c + q.x[9] + 0x8b44f7af) 12) ∧
  stepWrites .step10 .c (fun q => q.d + rotl32 (q.c + F1 q.d q.a q.b + q.x[10] + 0xffff5bb1) 17) ∧
  stepWrites .step11 .b (fun q => q.c + rotl32 (q.b + F1 q.c q.d q.a + q.x[11] + 0x895cd7be) 22) ∧
  stepWrites .step12 .a (fun q => q.b + rotl32 (q.a + F1 q.b q.c q.d + q.x[12] + 0x6b901122) 7) ∧
  stepWrites .step13 .d (fun q => q.a + rotl32 (q.d + F1 q.a q.b q.c + q.x[13] + 0xfd987193) 12) ∧
  stepWrites .step14 .c (fun q => q.d + rotl32 (q.c + F1 q.d q.a q.b + q.x[14] + 0xa679438e) 17) ∧
  stepWrites .step15 .b (fun q => q.c + rotl32 (q.b + F1 q.c q.d q.a + q.x[15] + 0x49b40821) 22)

/-- R136 to R143: steps 16 to 23, each with its own roles, message word, constant and rotation. -/
def Obligations.Round2FirstHalfStepsWrite : Prop :=
  stepWrites .step16 .a (fun q => q.b + rotl32 (q.a + F2 q.b q.c q.d + q.x[1] + 0xf61e2562) 5) ∧
  stepWrites .step17 .d (fun q => q.a + rotl32 (q.d + F2 q.a q.b q.c + q.x[6] + 0xc040b340) 9) ∧
  stepWrites .step18 .c (fun q => q.d + rotl32 (q.c + F2 q.d q.a q.b + q.x[11] + 0x265e5a51) 14) ∧
  stepWrites .step19 .b (fun q => q.c + rotl32 (q.b + F2 q.c q.d q.a + q.x[0] + 0xe9b6c7aa) 20) ∧
  stepWrites .step20 .a (fun q => q.b + rotl32 (q.a + F2 q.b q.c q.d + q.x[5] + 0xd62f105d) 5) ∧
  stepWrites .step21 .d (fun q => q.a + rotl32 (q.d + F2 q.a q.b q.c + q.x[10] + 0x02441453) 9) ∧
  stepWrites .step22 .c (fun q => q.d + rotl32 (q.c + F2 q.d q.a q.b + q.x[15] + 0xd8a1e681) 14) ∧
  stepWrites .step23 .b (fun q => q.c + rotl32 (q.b + F2 q.c q.d q.a + q.x[4] + 0xe7d3fbc8) 20)

/-- R144 to R151: steps 24 to 31, each with its own roles, message word, constant and rotation. -/
def Obligations.Round2SecondHalfStepsWrite : Prop :=
  stepWrites .step24 .a (fun q => q.b + rotl32 (q.a + F2 q.b q.c q.d + q.x[9] + 0x21e1cde6) 5) ∧
  stepWrites .step25 .d (fun q => q.a + rotl32 (q.d + F2 q.a q.b q.c + q.x[14] + 0xc33707d6) 9) ∧
  stepWrites .step26 .c (fun q => q.d + rotl32 (q.c + F2 q.d q.a q.b + q.x[3] + 0xf4d50d87) 14) ∧
  stepWrites .step27 .b (fun q => q.c + rotl32 (q.b + F2 q.c q.d q.a + q.x[8] + 0x455a14ed) 20) ∧
  stepWrites .step28 .a (fun q => q.b + rotl32 (q.a + F2 q.b q.c q.d + q.x[13] + 0xa9e3e905) 5) ∧
  stepWrites .step29 .d (fun q => q.a + rotl32 (q.d + F2 q.a q.b q.c + q.x[2] + 0xfcefa3f8) 9) ∧
  stepWrites .step30 .c (fun q => q.d + rotl32 (q.c + F2 q.d q.a q.b + q.x[7] + 0x676f02d9) 14) ∧
  stepWrites .step31 .b (fun q => q.c + rotl32 (q.b + F2 q.c q.d q.a + q.x[12] + 0x8d2a4c8a) 20)

/-- R152 to R159: steps 32 to 39, each with its own roles, message word, constant and rotation. -/
def Obligations.Round3FirstHalfStepsWrite : Prop :=
  stepWrites .step32 .a (fun q => q.b + rotl32 (q.a + F3 q.b q.c q.d + q.x[5] + 0xfffa3942) 4) ∧
  stepWrites .step33 .d (fun q => q.a + rotl32 (q.d + F3 q.a q.b q.c + q.x[8] + 0x8771f681) 11) ∧
  stepWrites .step34 .c (fun q => q.d + rotl32 (q.c + F3 q.d q.a q.b + q.x[11] + 0x6d9d6122) 16) ∧
  stepWrites .step35 .b (fun q => q.c + rotl32 (q.b + F3 q.c q.d q.a + q.x[14] + 0xfde5380c) 23) ∧
  stepWrites .step36 .a (fun q => q.b + rotl32 (q.a + F3 q.b q.c q.d + q.x[1] + 0xa4beea44) 4) ∧
  stepWrites .step37 .d (fun q => q.a + rotl32 (q.d + F3 q.a q.b q.c + q.x[4] + 0x4bdecfa9) 11) ∧
  stepWrites .step38 .c (fun q => q.d + rotl32 (q.c + F3 q.d q.a q.b + q.x[7] + 0xf6bb4b60) 16) ∧
  stepWrites .step39 .b (fun q => q.c + rotl32 (q.b + F3 q.c q.d q.a + q.x[10] + 0xbebfbc70) 23)

/-- R160 to R167: steps 40 to 47, each with its own roles, message word, constant and rotation. -/
def Obligations.Round3SecondHalfStepsWrite : Prop :=
  stepWrites .step40 .a (fun q => q.b + rotl32 (q.a + F3 q.b q.c q.d + q.x[13] + 0x289b7ec6) 4) ∧
  stepWrites .step41 .d (fun q => q.a + rotl32 (q.d + F3 q.a q.b q.c + q.x[0] + 0xeaa127fa) 11) ∧
  stepWrites .step42 .c (fun q => q.d + rotl32 (q.c + F3 q.d q.a q.b + q.x[3] + 0xd4ef3085) 16) ∧
  stepWrites .step43 .b (fun q => q.c + rotl32 (q.b + F3 q.c q.d q.a + q.x[6] + 0x04881d05) 23) ∧
  stepWrites .step44 .a (fun q => q.b + rotl32 (q.a + F3 q.b q.c q.d + q.x[9] + 0xd9d4d039) 4) ∧
  stepWrites .step45 .d (fun q => q.a + rotl32 (q.d + F3 q.a q.b q.c + q.x[12] + 0xe6db99e5) 11) ∧
  stepWrites .step46 .c (fun q => q.d + rotl32 (q.c + F3 q.d q.a q.b + q.x[15] + 0x1fa27cf8) 16) ∧
  stepWrites .step47 .b (fun q => q.c + rotl32 (q.b + F3 q.c q.d q.a + q.x[2] + 0xc4ac5665) 23)

/-- R168 to R175: steps 48 to 55, each with its own roles, message word, constant and rotation. -/
def Obligations.Round4FirstHalfStepsWrite : Prop :=
  stepWrites .step48 .a (fun q => q.b + rotl32 (q.a + F4 q.b q.c q.d + q.x[0] + 0xf4292244) 6) ∧
  stepWrites .step49 .d (fun q => q.a + rotl32 (q.d + F4 q.a q.b q.c + q.x[7] + 0x432aff97) 10) ∧
  stepWrites .step50 .c (fun q => q.d + rotl32 (q.c + F4 q.d q.a q.b + q.x[14] + 0xab9423a7) 15) ∧
  stepWrites .step51 .b (fun q => q.c + rotl32 (q.b + F4 q.c q.d q.a + q.x[5] + 0xfc93a039) 21) ∧
  stepWrites .step52 .a (fun q => q.b + rotl32 (q.a + F4 q.b q.c q.d + q.x[12] + 0x655b59c3) 6) ∧
  stepWrites .step53 .d (fun q => q.a + rotl32 (q.d + F4 q.a q.b q.c + q.x[3] + 0x8f0ccc92) 10) ∧
  stepWrites .step54 .c (fun q => q.d + rotl32 (q.c + F4 q.d q.a q.b + q.x[10] + 0xffeff47d) 15) ∧
  stepWrites .step55 .b (fun q => q.c + rotl32 (q.b + F4 q.c q.d q.a + q.x[1] + 0x85845dd1) 21)

/-- R176 to R183: steps 56 to 63, each with its own roles, message word, constant and rotation. -/
def Obligations.Round4SecondHalfStepsWrite : Prop :=
  stepWrites .step56 .a (fun q => q.b + rotl32 (q.a + F4 q.b q.c q.d + q.x[8] + 0x6fa87e4f) 6) ∧
  stepWrites .step57 .d (fun q => q.a + rotl32 (q.d + F4 q.a q.b q.c + q.x[15] + 0xfe2ce6e0) 10) ∧
  stepWrites .step58 .c (fun q => q.d + rotl32 (q.c + F4 q.d q.a q.b + q.x[6] + 0xa3014314) 15) ∧
  stepWrites .step59 .b (fun q => q.c + rotl32 (q.b + F4 q.c q.d q.a + q.x[13] + 0x4e0811a1) 21) ∧
  stepWrites .step60 .a (fun q => q.b + rotl32 (q.a + F4 q.b q.c q.d + q.x[4] + 0xf7537e82) 6) ∧
  stepWrites .step61 .d (fun q => q.a + rotl32 (q.d + F4 q.a q.b q.c + q.x[11] + 0xbd3af235) 10) ∧
  stepWrites .step62 .c (fun q => q.d + rotl32 (q.c + F4 q.d q.a q.b + q.x[2] + 0x2ad7d2bb) 15) ∧
  stepWrites .step63 .b (fun q => q.c + rotl32 (q.b + F4 q.c q.d q.a + q.x[9] + 0xeb86d391) 21)

/-- R106 to R110: at every step index the operation selected does what the generic step does with the tables, and nothing else. -/
def Obligations.StepsFollowTheTables : Prop :=
  ∀ (t : BitVec 6) (s : State), exec (decodeStep t) s = .next { s with work := genericStep t s.work }

/-- R100, R111 to R113: a `compress` begun on `H` and `BUF` and run one step operation at a time is over after exactly 64 steps, leaves
`compress(H, BUF)` in `H`, and changes nothing else but the working variables. -/
def Obligations.SixtyFourStepsAreCompress : Prop :=
  ∀ s : State, s.errIllegal = false →
    (∃ q, Sys2Proof.core.run 64 (startCompress s) =
      .next { s with ctx := { s.ctx with h := compress s.ctx.h s.ctx.buf }, work := q, stepIndex := none }) ∧
    (∀ n < 64, ∃ t, Sys2Proof.core.run n (startCompress s) = .next t ∧ t.stepIndex = some (BitVec.ofNat 6 n) ∧ t.ctx = s.ctx)

/-! ### The Digest Engine -/

/-- R201: `INIT`, in every phase: the four constants, the count 0, ACCUM; `BUF` and every output register and flag as before. Hidden working state:
free values, the model's form of R33 (log entry 2). -/
def Obligations.InitBeginsDigest : Prop :=
  ∀ s : State, exec .init s = .next (endCommand { s with
    ctx := { h := ⟨0x67452301, 0xefcdab89, 0x98badcfe, 0x10325476⟩, buf := s.ctx.buf, cnt := 0 }, phase := .accum })

/-- R202, R203, R209: `UPDATE` in ACCUM, block by block: the buffered bytes and the payload are cut into 64-byte blocks, each full block
is compressed in order, the remainder stays buffered, the count goes up by 8 a byte modulo 2^64, and nothing else changes. Outside
ACCUM: `ERR_STATE` and nothing else. Hidden working state:
free values, the model's form of R33; that a faulting command keeps it is the model's choice (both log entry 2). -/
def Obligations.UpdateAbsorbsBlocks : Prop :=
  ∀ (payload : List Byte) (s : State),
    (s.phase = .accum → ∃ c, exec (.update payload) s = .next (endCommand { s with ctx := c }) ∧
      c.cnt.toNat = (s.ctx.cnt.toNat + 8 * payload.length) % 2 ^ 64 ∧
      fill c.cnt = (fill s.ctx.cnt + payload.length) % 64 ∧
      c.h = compressBlocks ((fill s.ctx.cnt + payload.length) / 64) s.ctx.h (buffered s.ctx ++ payload) ∧
      buffered c = (buffered s.ctx ++ payload).drop (64 * ((fill s.ctx.cnt + payload.length) / 64))) ∧
    (s.phase ≠ .accum → exec (.update payload) s = .next { s with errState := true })

/-- R202, R203, R22: where `UPDATE` stores: payload byte `p` goes to `BUF[(fill + p) mod 64]`, the last 64 of them stay there, and every
byte of `BUF` no payload byte goes to is as before. Hidden working state:
free values, the model's form of R33 (log entry 2). -/
def Obligations.UpdateStoresOnlyItsBytes : Prop :=
  ∀ (payload : List Byte) (s : State), s.phase = .accum → ∃ c, exec (.update payload) s = .next (endCommand { s with ctx := c }) ∧
    (∀ p (h : p < payload.length), payload.length ≤ p + 64 → c.buf[(fill s.ctx.cnt + p) % 64]? = some payload[p]) ∧
    (∀ j (h : j < 64), (∀ p < payload.length, (fill s.ctx.cnt + p) % 64 ≠ j) → c.buf[j] = s.ctx.buf[j])

/-- R207: two `UPDATE`s leave the whole state of the one with both payloads, hidden working state apart; an empty `UPDATE` changes
nothing (the hidden state apart, which is unspecified at every command boundary); and any two ways of splitting one byte stream, from
any two states, give the same digest. -/
def Obligations.UpdateChunkingIsInvisible : Prop :=
  (∀ (p q : List Byte) (s : State), s.phase = .accum → ∃ t u v,
    exec (.update p) s = .next t ∧ exec (.update q) t = .next u ∧ exec (.update (p ++ q)) s = .next v ∧ SameButHidden u v) ∧
  (∀ s : State, s.phase = .accum → exec (.update []) s = .next (endCommand s)) ∧
  (∀ (ps qs : List (List Byte)) (s s' : State), ps.flatten = qs.flatten → ∃ t t',
    execAll (.init :: ps.map Instr.update ++ [.final]) s = .next t ∧
    execAll (.init :: qs.map Instr.update ++ [.final]) s' = .next t' ∧ t.digest = t'.digest)

/-- R205, R206, R204: `FINAL` in ACCUM: the digest of the buffered bytes with marker, zero run and the original bit count, through one
block or two; the flags; the whole context zero; FINALIZED; nothing else. Outside ACCUM: `ERR_STATE` and nothing else. Hidden working state:
free values, the model's form of R33; that a faulting command keeps it is the model's choice (both log entry 2). -/
def Obligations.FinalProducesDigestAndWipes : Prop :=
  ∀ s : State,
    (s.phase = .accum → exec .final s = .next (endCommand { s with
      digest := serialise (compressBlocks (if fill s.ctx.cnt < 56 then 1 else 2) s.ctx.h
        (buffered s.ctx ++ [0x80] ++ List.replicate ((119 - fill s.ctx.cnt) % 64) 0 ++ bytesLE64 s.ctx.cnt))
      digestValid := true, hexValid := false, matched := false
      ctx := ⟨⟨0, 0, 0, 0⟩, Vector.replicate 64 0, 0⟩, phase := .finalized })) ∧
    (s.phase ≠ .accum → exec .final s = .next { s with errState := true })

/-- R204: marker and zero run: one byte 0x80 and the smallest number of zero bytes that brings the fill to 56; the eight length bytes
then complete the block; one `compress` in `FINAL` up to fill 55, two from fill 56. -/
def Obligations.PaddingFillsTo56 : Prop :=
  (∀ f < 64, padding f = 0x80 :: List.replicate (padLength f - 1) 0 ∧
    padLength f = (if f < 56 then 56 - f else 120 - f) ∧ 1 ≤ padLength f ∧ padLength f ≤ 64 ∧
    (f + padLength f) % 64 = 56 ∧ padLength f - 1 = (119 - f) % 64 ∧ ∀ z, (f + 1 + z) % 64 = 56 → padLength f - 1 ≤ z) ∧
  (∀ c : Context, fill (absorb c (padding (fill c.cnt))).cnt = 56 ∧
    fill (absorb (absorb c (padding (fill c.cnt))) (bytesLE64 c.cnt)).cnt = 0) ∧
  (∀ s : State, finalCompressions s = if fill s.ctx.cnt ≤ 55 then 1 else 2)

/-- R276, R203: how often `compress` runs: `(fill + LEN) div 64` times in an `UPDATE`, and `(n + 8) div 64 + 1` times for a message of
`n` bytes sent in one `UPDATE` after `INIT`. -/
def Obligations.CompressionCounts : Prop :=
  (∀ (s : State) (payload : List Byte), updateCompressions s payload = (fill s.ctx.cnt + payload.length) / 64) ∧
  (∀ (s : State) (message : List Byte), s.ctx.cnt = 0 →
    updateCompressions s message + finalCompressions { s with ctx := absorb s.ctx message } = (message.length + 8) / 64 + 1)

/-- R24: the fill is (CNT div 8) mod 64, that is CNT[8:3], below 64, and the wrap of the count does not disturb it. -/
def Obligations.FillIsCountBits : Prop :=
  ∀ cnt : Count, fill cnt = cnt.toNat / 8 % 64 ∧ fill cnt = (cnt.extractLsb' 3 6).toNat ∧ fill cnt < 64 ∧
    fill (cnt + 8) = (fill cnt + 1) % 64

/-- R206: the context is zero after every `FINAL`, successful or not, from every state that meets the invariants of R35. -/
def Obligations.ContextZeroAfterEveryFinal : Prop :=
  ∀ s : State, BoundaryInvariant s → ∃ t, exec .final s = .next t ∧ t.ctx = ⟨⟨0, 0, 0, 0⟩, Vector.replicate 64 0, 0⟩

/-- R208, R209: from every state, `INIT`, any `UPDATE`s and `FINAL` leave the MD5 of the concatenated payloads in `DIGEST`; and the
digest function gives the source's three vectors. -/
def Obligations.DigestCommandsComputeMd5 : Prop :=
  (∀ (s : State) (payloads : List (List Byte)), ∃ t, execAll (.init :: payloads.map Instr.update ++ [.final]) s = .next t ∧
    t.digest = md5 payloads.flatten ∧ t.digestValid = true ∧ t.phase = .finalized) ∧
  (md5 []).toList = [0xd4, 0x1d, 0x8c, 0xd9, 0x8f, 0x00, 0xb2, 0x04, 0xe9, 0x80, 0x09, 0x98, 0xec, 0xf8, 0x42, 0x7e] ∧
  (md5 [0x61, 0x62, 0x63]).toList =
    [0x90, 0x01, 0x50, 0x98, 0x3c, 0xd2, 0x4f, 0xb0, 0xd6, 0x96, 0x3f, 0x7d, 0x28, 0xe1, 0x7f, 0x72] ∧
  (md5 [0x6d, 0x65, 0x73, 0x73, 0x61, 0x67, 0x65, 0x20, 0x64, 0x69, 0x67, 0x65, 0x73, 0x74]).toList =
    [0xf9, 0x6b, 0x69, 0x7d, 0x7c, 0xb7, 0x93, 0x8d, 0x52, 0x5a, 0x2f, 0x31, 0xaa, 0xf1, 0x61, 0xd0]

/-- R80, R208: the byte stream of `DIGEST s`, sent to an idle core, is run command by command, wholly consumed, and leaves `md5(s)` in
`DIGEST`, the context zero and no fault flag changed. -/
def Obligations.DigestStreamComputesMd5 : Prop :=
  ∀ (s : State) (message : List Byte), s.errIllegal = false → s.stepIndex = none → s.input = [] →
    ∃ t, Sys2Proof.core.run (expandDigest message).length (transfer s (encodeStream (expandDigest message))) = .next t ∧
      t.digest = md5 message ∧ t.digestValid = true ∧ t.phase = .finalized ∧ t.ctx = .zero ∧ t.input = [] ∧
      t.errState = s.errState ∧ t.errIllegal = false

/-- R80: the byte stream of `VERIFY s, h` leaves `MATCH` = 1 exactly when `h` is the 32-character lower-case hex MD5 digest of `s`. -/
def Obligations.VerifyStreamDecidesEquality : Prop :=
  ∀ (s : State) (message reference : List Byte), s.errIllegal = false → s.stepIndex = none → s.input = [] → reference.length ≤ 255 →
    ∃ t, Sys2Proof.core.run (expandVerify message reference).length
        (transfer s (encodeStream (expandVerify message reference))) = .next t ∧
      (t.matched = true ↔ reference = (toHex (md5 message)).toList) ∧
      t.hex = toHex (md5 message) ∧ t.hexValid = true ∧ t.input = [] ∧ t.errState = s.errState

/-! ### The Hex Codec -/

/-- R230: the character of a nibble, the nibble of a character, none outside the alphabet, and each undoes the other. -/
def Obligations.HexCharactersAreInverse : Prop :=
  (∀ n : BitVec 4, (hexChar n).toNat = (if n.toNat ≤ 9 then 0x30 + n.toNat else 0x57 + n.toNat) ∧ hexVal (hexChar n) = some n) ∧
  (∀ (c : Byte) (n : BitVec 4), hexVal c = some n → hexChar n = c) ∧
  (∀ c : Byte, hexVal c = none ↔ ¬ (0x30 ≤ c.toNat ∧ c.toNat ≤ 0x39) ∧ ¬ (0x61 ≤ c.toNat ∧ c.toNat ≤ 0x66))

/-- R231, R84: `HEXENC` with a valid digest: each byte as two characters, high nibble first, HEX_VALID, nothing else; without one
`ERR_STATE` and nothing else. Hidden working state:
free values, the model's form of R33; that a faulting command keeps it is the model's choice (both log entry 2). -/
def Obligations.HexencRendersDigest : Prop :=
  ∀ s : State,
    (s.digestValid = true → ∃ chars : Vector Byte 32,
      exec .hexenc s = .next (endCommand { s with hex := chars, hexValid := true }) ∧
      ∀ i (h : i < 16), chars[2 * i] = hexChar (s.digest[i].extractLsb' 4 4) ∧
        chars[2 * i + 1] = hexChar (s.digest[i].extractLsb' 0 4)) ∧
    (s.digestValid = false → exec .hexenc s = .next { s with errState := true })

/-- R232: `HEXDEC`: a string of exactly 32 characters of the alphabet gives its 16 bytes and RAW_VALID = 1, every other string zeros
and RAW_VALID = 0; nothing else changes. Hidden working state:
free values, the model's form of R33 (log entry 2). -/
def Obligations.HexdecDecodesOrClears : Prop :=
  ∀ (payload : List Byte) (s : State),
    (payload.length = 32 ∧ (∀ c ∈ payload, hexVal c ≠ none) → ∃ bytes : Vector Byte 16,
      exec (.hexdec payload) s = .next (endCommand { s with raw := bytes, rawValid := true }) ∧
      ∀ i (h : i < 16) (hi lo : BitVec 4), payload[2 * i]?.bind hexVal = some hi → payload[2 * i + 1]?.bind hexVal = some lo →
        bytes[i].toNat = 16 * hi.toNat + lo.toNat) ∧
    (¬ (payload.length = 32 ∧ ∀ c ∈ payload, hexVal c ≠ none) →
      exec (.hexdec payload) s = .next (endCommand { s with raw := Vector.replicate 16 0, rawValid := false }))

/-- R233: `HEXCMP` writes `MATCH` only: 1 exactly when HEX_VALID = 1, LEN = 32 and every byte is equal. Hidden working state:
free values, the model's form of R33 (log entry 2). -/
def Obligations.HexcmpWritesMatchOnly : Prop :=
  ∀ (payload : List Byte) (s : State), ∃ m, exec (.hexcmp payload) s = .next (endCommand { s with matched := m }) ∧
    (m = true ↔ s.hexValid = true ∧ payload.length = 32 ∧ ∀ j (h : j < 32), payload[j]? = some s.hex[j])

/-- R234: the round-trip laws, of the functions and in command terms. -/
def Obligations.HexRoundTrip : Prop :=
  (∀ d : Vector Byte 16, fromHex (toHex d).toList = some d) ∧
  (∀ (str : List Byte) (d : Vector Byte 16), fromHex str = some d → (toHex d).toList = str) ∧
  (∀ d d' : Vector Byte 16, toHex d = toHex d' ↔ d = d') ∧
  (∀ s : State, s.digestValid = true → ∃ t u, exec .hexenc s = .next t ∧ exec (.hexdec t.hex.toList) t = .next u ∧
    u.raw = s.digest ∧ u.rawValid = true)

/-! ### Whole-machine rules over all instructions -/

/-- R251: the complete list of causes of StateFault: in each of them `ERR_STATE` is set and nothing else changes, the faulting command's
bytes being consumed; in no other case does an instruction change `ERR_STATE`.
That the hidden working state stays as well is the model's choice (log entry 2). -/
def Obligations.StateFaultCausesAreComplete : Prop :=
  (∀ (payload : List Byte) (s : State), s.phase ≠ .accum → exec (.update payload) s = .next { s with errState := true }) ∧
  (∀ s : State, s.phase ≠ .accum → exec .final s = .next { s with errState := true }) ∧
  (∀ s : State, s.digestValid = false → exec .hexenc s = .next { s with errState := true }) ∧
  (∀ (i : Instr) (s t : State), ¬ (s.phase ≠ .accum ∧ (i = .final ∨ ∃ payload, i = .update payload)) →
    ¬ (s.digestValid = false ∧ i = .hexenc) → exec i s = .next t → t.errState = s.errState) ∧
  (∀ (payload rest : List Byte) (s : State), WellFormed (.update payload) → s.phase ≠ .accum → s.errIllegal = false →
    s.stepIndex = none → s.input = encodeBytes (.update payload) ++ rest →
    step s = .next { s with errState := true, input := rest })

/-- R275, R110, R250: every instruction completes from every state; none stops the core. -/
def Obligations.EveryInstructionCompletes : Prop :=
  ∀ (i : Instr) (s : State), ∃ t, exec i s = .next t

/-- R34 and the writers named in R21 to R30: which instruction may change which register; no instruction changes `ERR_ILLEGAL`. -/
def Obligations.OnlyTheListedCommandsWrite : Prop :=
  ∀ (i : Instr) (s t : State), exec i s = .next t →
    (t.ctx.h ≠ s.ctx.h → i = .init ∨ i = .final ∨ ∃ p, i = .update p) ∧
    (t.ctx.buf ≠ s.ctx.buf → i = .final ∨ ∃ p, i = .update p) ∧
    (t.ctx.cnt ≠ s.ctx.cnt → i = .init ∨ i = .final ∨ ∃ p, i = .update p) ∧
    (t.phase ≠ s.phase → i = .init ∨ i = .final) ∧
    (t.digest ≠ s.digest → i = .final) ∧
    (t.digestValid ≠ s.digestValid → i = .final) ∧
    (t.hex ≠ s.hex → i = .hexenc) ∧
    (t.hexValid ≠ s.hexValid → i = .hexenc ∨ i = .final) ∧
    (t.raw ≠ s.raw → ∃ p, i = .hexdec p) ∧
    (t.rawValid ≠ s.rawValid → ∃ p, i = .hexdec p) ∧
    (t.matched ≠ s.matched → i = .final ∨ ∃ p, i = .hexcmp p) ∧
    (t.errState ≠ s.errState → i = .final ∨ i = .hexenc ∨ ∃ p, i = .update p) ∧
    t.errIllegal = s.errIllegal ∧ t.stepIndex = s.stepIndex ∧ t.input = s.input

/-- R200: the phase machine, over all instructions: `INIT` leads to ACCUM from every phase, `FINAL` from ACCUM to FINALIZED, and
everything else keeps the phase; `UPDATE` and `FINAL` outside ACCUM set `ERR_STATE` and nothing else (R251). That the hidden working
state stays as well is the model's choice (log entry 2). -/
def Obligations.PhaseMovesOnlyAsTabled : Prop :=
  ∀ (i : Instr) (s t : State), exec i s = .next t →
    t.phase = (if i = .init then .accum else if i = .final ∧ s.phase = .accum then .finalized else s.phase) ∧
    ((i = .final ∨ ∃ payload, i = .update payload) → s.phase ≠ .accum → t = { s with errState := true })

/-- R33: the hidden working state is unread: two states that differ only in it are taken by every host command to two states that
differ only in it. -/
def Obligations.HiddenStateIsUnread : Prop :=
  ∀ (i : Instr) (s t : State), isCommand i = true → SameButHidden s t →
    ∃ s' t', exec i s = .next s' ∧ exec i t = .next t' ∧ SameButHidden s' t'

/-- R259, R16: no instruction but `FINAL` lets anything of `H`, `BUF`, `CNT` or the working variables reach a register the host can
read: two states that differ only there go to two that differ only there, with the same outputs. -/
def Obligations.ContextReachesNoPort : Prop :=
  ∀ (i : Instr) (s t : State), i ≠ .final → SameButContext s t →
    ∃ s' t', exec i s = .next s' ∧ exec i t = .next t' ∧ SameButContext s' t' ∧ outputs s' = outputs t'

/-! ### The step of the machine -/

/-- R58, R70: at a command boundary, when the bytes of the stream decode to an instruction, the step is the instruction's meaning with
the command's bytes consumed. -/
def Obligations.StepRunsDecodedCommand : Prop :=
  ∀ (s : State) (i : Instr) (rest : List Byte), s.errIllegal = false → s.stepIndex = none → decodeCommand s.input = .instr i rest →
    step s = exec i { s with input := rest }

/-- R78, R112, R113: inside a `compress` the step runs the operation its index selects; the index goes to the next one, and after step
63 the feed-forward is added to `H` and the `compress` is over. -/
def Obligations.StepRunsSelectedOperation : Prop :=
  ∀ (s : State) (t : BitVec 6), s.errIllegal = false → s.stepIndex = some t → ∃ u, exec (decodeStep t) s = .next u ∧
    step s = .next (if t = 63 then
      { u with
        ctx := { u.ctx with h := ⟨u.ctx.h.h0 + u.work.a, u.ctx.h.h1 + u.work.b, u.ctx.h.h2 + u.work.c, u.ctx.h.h3 + u.work.d⟩ }
        stepIndex := none }
      else { u with stepIndex := some (t + 1) })

/-- R252, R76: an undefined opcode byte at a command boundary sets `ERR_ILLEGAL`, changes no other register, and halts the core: no
further step, no further byte; the outputs keep showing the state, with STATUS[7] = 1; reset ends the halt.
That the hidden working state stays as well at the halt is the model's choice (log entry 2). -/
def Obligations.IllegalOpcodeHaltsCore : Prop :=
  ∀ (s : State) (op : Byte) (rest : List Byte), s.errIllegal = false → s.stepIndex = none → s.input = op :: rest →
    op ∉ [0x01, 0x02, 0x03, 0x10, 0x11, 0x12] →
    ∃ t, step s = .next t ∧ t = { s with errIllegal := true, input := rest } ∧
      step t = .fault .halted ∧ acceptsByte t = false ∧ (∀ bytes, transfer t bytes = t) ∧
      observe t = some ⟨statusPort s ||| 0x80, digestPort s, hexPort s, rawPort s, false⟩ ∧
      acceptsByte (applyReset t) = true

/-- R77: inside a command the core has no step and its state is that of the last boundary; the bytes sent next are taken as the rest of
the command, which then executes. -/
def Obligations.TruncatedCommandWaitsForItsRest : Prop :=
  ∀ (s : State) (i : Instr) (bs : List Byte) (n : Nat), WellFormed i → encode i = .bytes bs → 0 < n → n < bs.length →
    s.errIllegal = false → s.stepIndex = none → s.input = bs.take n →
    step s = .fault .truncatedCommand ∧ step (transfer s (bs.drop n)) = exec i { s with input := [] }

/-- R271, R262: at a command boundary with no byte sent the core executes nothing. The model's reading (log entry 3). -/
def Obligations.IdleCoreExecutesNothing : Prop :=
  ∀ s : State, s.errIllegal = false → s.stepIndex = none → s.input = [] → step s = .next s

/-- R35 (ix), R30: no step clears a fault flag. -/
def Obligations.FaultFlagsAreSticky : Prop :=
  ∀ (s t : State), step s = .next t → (s.errState = true → t.errState = true) ∧ (s.errIllegal = true → t.errIllegal = true)

/-- R35: the invariants hold after reset. -/
def Obligations.InvariantsHoldAtReset : Prop := BoundaryInvariant State.reset

/-- R35: every step keeps the invariants, from every state that meets them. -/
def Obligations.EveryStepKeepsInvariants : Prop :=
  ∀ (s t : State), BoundaryInvariant s → step s = .next t → BoundaryInvariant t

/-! ### Reset and ports -/

/-- R36: after reset every bit of state is 0 and the decoder expects an opcode byte. -/
def Obligations.ResetStateIsZero : Prop :=
  State.reset.ctx = ⟨⟨0, 0, 0, 0⟩, Vector.replicate 64 0, 0⟩ ∧ State.reset.phase = .fresh ∧
  State.reset.digest = Vector.replicate 16 0 ∧ State.reset.digestValid = false ∧
  State.reset.hex = Vector.replicate 32 0 ∧ State.reset.hexValid = false ∧
  State.reset.raw = Vector.replicate 16 0 ∧ State.reset.rawValid = false ∧ State.reset.matched = false ∧
  State.reset.errState = false ∧ State.reset.errIllegal = false ∧ status State.reset = 0x00 ∧ fetch State.reset = .idle

/-- R270, R271: reset from any state: every register, the hidden working state included, as after reset; the halt is over, the command
in progress and the bytes received are forgotten. -/
def Obligations.ResetEventClearsEverything : Prop :=
  ∀ s : State, (applyReset s).ctx = .zero ∧ (applyReset s).work = .zero ∧ (applyReset s).latch = 0 ∧
    forgetHidden (applyReset s) = forgetHidden State.reset ∧ acceptsByte (applyReset s) = true ∧ fetch (applyReset s) = .idle

/-- R31: the packing of STATUS, and its value after reset. -/
def Obligations.StatusPacksTheFlags : Prop :=
  (∀ s : State, ((status s).extractLsb' 0 2).toNat = (match s.phase with | .fresh => 0 | .accum => 1 | .finalized => 2) ∧
    (status s).getLsbD 2 = s.digestValid ∧ (status s).getLsbD 3 = s.hexValid ∧ (status s).getLsbD 4 = s.rawValid ∧
    (status s).getLsbD 5 = s.matched ∧ (status s).getLsbD 6 = s.errState ∧ (status s).getLsbD 7 = s.errIllegal) ∧
  status State.reset = 0x00

/-- R56: byte `i` of each array on bits 8i+7 to 8i of its port. -/
def Obligations.PortLanesFollowIndices : Prop :=
  ∀ s : State, statusPort s = status s ∧
    (∀ i (h : i < 16), (digestPort s).extractLsb' (8 * i) 8 = s.digest[i]) ∧
    (∀ i (h : i < 32), (hexPort s).extractLsb' (8 * i) 8 = s.hex[i]) ∧
    (∀ i (h : i < 16), (rawPort s).extractLsb' (8 * i) 8 = s.raw[i])
end

