-- ==== Sys2Proof/Laws/State.lean ====
section
/-! SUPPORT. What each named update of the state does to each field, one lemma per field per update. -/

namespace Sys2Proof.Laws

open Sys2Proof Sys2Proof.Machine

variable (s : State) (rest : List Byte)

/-! ### raiseStateFault -/

@[simp] theorem raiseStateFault_ctx : (raiseStateFault s).ctx = s.ctx := rfl
@[simp] theorem raiseStateFault_phase : (raiseStateFault s).phase = s.phase := rfl
@[simp] theorem raiseStateFault_digest : (raiseStateFault s).digest = s.digest := rfl
@[simp] theorem raiseStateFault_digestValid : (raiseStateFault s).digestValid = s.digestValid := rfl
@[simp] theorem raiseStateFault_hex : (raiseStateFault s).hex = s.hex := rfl
@[simp] theorem raiseStateFault_hexValid : (raiseStateFault s).hexValid = s.hexValid := rfl
@[simp] theorem raiseStateFault_raw : (raiseStateFault s).raw = s.raw := rfl
@[simp] theorem raiseStateFault_rawValid : (raiseStateFault s).rawValid = s.rawValid := rfl
@[simp] theorem raiseStateFault_matched : (raiseStateFault s).matched = s.matched := rfl
@[simp] theorem raiseStateFault_errState : (raiseStateFault s).errState = true := rfl
@[simp] theorem raiseStateFault_errIllegal : (raiseStateFault s).errIllegal = s.errIllegal := rfl
@[simp] theorem raiseStateFault_work : (raiseStateFault s).work = s.work := rfl
@[simp] theorem raiseStateFault_latch : (raiseStateFault s).latch = s.latch := rfl
@[simp] theorem raiseStateFault_stepIndex : (raiseStateFault s).stepIndex = s.stepIndex := rfl
@[simp] theorem raiseStateFault_input : (raiseStateFault s).input = s.input := rfl
@[simp] theorem raiseStateFault_boundaryCount : (raiseStateFault s).boundaryCount = s.boundaryCount := rfl

/-! ### raiseIllegalCommand -/

@[simp] theorem raiseIllegalCommand_ctx : (raiseIllegalCommand s).ctx = s.ctx := rfl
@[simp] theorem raiseIllegalCommand_phase : (raiseIllegalCommand s).phase = s.phase := rfl
@[simp] theorem raiseIllegalCommand_digest : (raiseIllegalCommand s).digest = s.digest := rfl
@[simp] theorem raiseIllegalCommand_digestValid : (raiseIllegalCommand s).digestValid = s.digestValid := rfl
@[simp] theorem raiseIllegalCommand_hex : (raiseIllegalCommand s).hex = s.hex := rfl
@[simp] theorem raiseIllegalCommand_hexValid : (raiseIllegalCommand s).hexValid = s.hexValid := rfl
@[simp] theorem raiseIllegalCommand_raw : (raiseIllegalCommand s).raw = s.raw := rfl
@[simp] theorem raiseIllegalCommand_rawValid : (raiseIllegalCommand s).rawValid = s.rawValid := rfl
@[simp] theorem raiseIllegalCommand_matched : (raiseIllegalCommand s).matched = s.matched := rfl
@[simp] theorem raiseIllegalCommand_errState : (raiseIllegalCommand s).errState = s.errState := rfl
@[simp] theorem raiseIllegalCommand_errIllegal : (raiseIllegalCommand s).errIllegal = true := rfl
@[simp] theorem raiseIllegalCommand_work : (raiseIllegalCommand s).work = s.work := rfl
@[simp] theorem raiseIllegalCommand_latch : (raiseIllegalCommand s).latch = s.latch := rfl
@[simp] theorem raiseIllegalCommand_stepIndex : (raiseIllegalCommand s).stepIndex = s.stepIndex := rfl
@[simp] theorem raiseIllegalCommand_input : (raiseIllegalCommand s).input = s.input := rfl
@[simp] theorem raiseIllegalCommand_boundaryCount : (raiseIllegalCommand s).boundaryCount = s.boundaryCount := rfl

/-! ### endCommand -/

@[simp] theorem endCommand_ctx : (endCommand s).ctx = s.ctx := rfl
@[simp] theorem endCommand_phase : (endCommand s).phase = s.phase := rfl
@[simp] theorem endCommand_digest : (endCommand s).digest = s.digest := rfl
@[simp] theorem endCommand_digestValid : (endCommand s).digestValid = s.digestValid := rfl
@[simp] theorem endCommand_hex : (endCommand s).hex = s.hex := rfl
@[simp] theorem endCommand_hexValid : (endCommand s).hexValid = s.hexValid := rfl
@[simp] theorem endCommand_raw : (endCommand s).raw = s.raw := rfl
@[simp] theorem endCommand_rawValid : (endCommand s).rawValid = s.rawValid := rfl
@[simp] theorem endCommand_matched : (endCommand s).matched = s.matched := rfl
@[simp] theorem endCommand_errState : (endCommand s).errState = s.errState := rfl
@[simp] theorem endCommand_errIllegal : (endCommand s).errIllegal = s.errIllegal := rfl
@[simp] theorem endCommand_work : (endCommand s).work = freeWork s.boundaryCount := rfl
@[simp] theorem endCommand_latch : (endCommand s).latch = Config.freeLatch s.boundaryCount := rfl
@[simp] theorem endCommand_stepIndex : (endCommand s).stepIndex = s.stepIndex := rfl
@[simp] theorem endCommand_input : (endCommand s).input = s.input := rfl
@[simp] theorem endCommand_boundaryCount : (endCommand s).boundaryCount = s.boundaryCount + 1 := rfl

/-! ### consume -/

@[simp] theorem consume_ctx : (consume s rest).ctx = s.ctx := rfl
@[simp] theorem consume_phase : (consume s rest).phase = s.phase := rfl
@[simp] theorem consume_digest : (consume s rest).digest = s.digest := rfl
@[simp] theorem consume_digestValid : (consume s rest).digestValid = s.digestValid := rfl
@[simp] theorem consume_hex : (consume s rest).hex = s.hex := rfl
@[simp] theorem consume_hexValid : (consume s rest).hexValid = s.hexValid := rfl
@[simp] theorem consume_raw : (consume s rest).raw = s.raw := rfl
@[simp] theorem consume_rawValid : (consume s rest).rawValid = s.rawValid := rfl
@[simp] theorem consume_matched : (consume s rest).matched = s.matched := rfl
@[simp] theorem consume_errState : (consume s rest).errState = s.errState := rfl
@[simp] theorem consume_errIllegal : (consume s rest).errIllegal = s.errIllegal := rfl
@[simp] theorem consume_work : (consume s rest).work = s.work := rfl
@[simp] theorem consume_latch : (consume s rest).latch = s.latch := rfl
@[simp] theorem consume_stepIndex : (consume s rest).stepIndex = s.stepIndex := rfl
@[simp] theorem consume_input : (consume s rest).input = rest := rfl
@[simp] theorem consume_boundaryCount : (consume s rest).boundaryCount = s.boundaryCount := rfl

/-! ### zeroise -/

@[simp] theorem zeroise_ctx : (zeroise s).ctx = .zero := rfl
@[simp] theorem zeroise_phase : (zeroise s).phase = s.phase := rfl
@[simp] theorem zeroise_digest : (zeroise s).digest = s.digest := rfl
@[simp] theorem zeroise_digestValid : (zeroise s).digestValid = s.digestValid := rfl
@[simp] theorem zeroise_hex : (zeroise s).hex = s.hex := rfl
@[simp] theorem zeroise_hexValid : (zeroise s).hexValid = s.hexValid := rfl
@[simp] theorem zeroise_raw : (zeroise s).raw = s.raw := rfl
@[simp] theorem zeroise_rawValid : (zeroise s).rawValid = s.rawValid := rfl
@[simp] theorem zeroise_matched : (zeroise s).matched = s.matched := rfl
@[simp] theorem zeroise_errState : (zeroise s).errState = s.errState := rfl
@[simp] theorem zeroise_errIllegal : (zeroise s).errIllegal = s.errIllegal := rfl
@[simp] theorem zeroise_work : (zeroise s).work = s.work := rfl
@[simp] theorem zeroise_latch : (zeroise s).latch = s.latch := rfl
@[simp] theorem zeroise_stepIndex : (zeroise s).stepIndex = s.stepIndex := rfl
@[simp] theorem zeroise_input : (zeroise s).input = s.input := rfl
@[simp] theorem zeroise_boundaryCount : (zeroise s).boundaryCount = s.boundaryCount := rfl

/-! ### latchCount -/

@[simp] theorem latchCount_ctx : (latchCount s).ctx = s.ctx := rfl
@[simp] theorem latchCount_phase : (latchCount s).phase = s.phase := rfl
@[simp] theorem latchCount_digest : (latchCount s).digest = s.digest := rfl
@[simp] theorem latchCount_digestValid : (latchCount s).digestValid = s.digestValid := rfl
@[simp] theorem latchCount_hex : (latchCount s).hex = s.hex := rfl
@[simp] theorem latchCount_hexValid : (latchCount s).hexValid = s.hexValid := rfl
@[simp] theorem latchCount_raw : (latchCount s).raw = s.raw := rfl
@[simp] theorem latchCount_rawValid : (latchCount s).rawValid = s.rawValid := rfl
@[simp] theorem latchCount_matched : (latchCount s).matched = s.matched := rfl
@[simp] theorem latchCount_errState : (latchCount s).errState = s.errState := rfl
@[simp] theorem latchCount_errIllegal : (latchCount s).errIllegal = s.errIllegal := rfl
@[simp] theorem latchCount_work : (latchCount s).work = s.work := rfl
@[simp] theorem latchCount_latch : (latchCount s).latch = s.ctx.cnt := rfl
@[simp] theorem latchCount_stepIndex : (latchCount s).stepIndex = s.stepIndex := rfl
@[simp] theorem latchCount_input : (latchCount s).input = s.input := rfl
@[simp] theorem latchCount_boundaryCount : (latchCount s).boundaryCount = s.boundaryCount := rfl

/-! ### flagsAfterFinal -/

@[simp] theorem flagsAfterFinal_ctx : (State.flagsAfterFinal s).ctx = s.ctx := rfl
@[simp] theorem flagsAfterFinal_phase : (State.flagsAfterFinal s).phase = s.phase := rfl
@[simp] theorem flagsAfterFinal_digest : (State.flagsAfterFinal s).digest = s.digest := rfl
@[simp] theorem flagsAfterFinal_digestValid : (State.flagsAfterFinal s).digestValid = true := rfl
@[simp] theorem flagsAfterFinal_hex : (State.flagsAfterFinal s).hex = s.hex := rfl
@[simp] theorem flagsAfterFinal_hexValid : (State.flagsAfterFinal s).hexValid = false := rfl
@[simp] theorem flagsAfterFinal_raw : (State.flagsAfterFinal s).raw = s.raw := rfl
@[simp] theorem flagsAfterFinal_rawValid : (State.flagsAfterFinal s).rawValid = s.rawValid := rfl
@[simp] theorem flagsAfterFinal_matched : (State.flagsAfterFinal s).matched = false := rfl
@[simp] theorem flagsAfterFinal_errState : (State.flagsAfterFinal s).errState = s.errState := rfl
@[simp] theorem flagsAfterFinal_errIllegal : (State.flagsAfterFinal s).errIllegal = s.errIllegal := rfl
@[simp] theorem flagsAfterFinal_work : (State.flagsAfterFinal s).work = s.work := rfl
@[simp] theorem flagsAfterFinal_latch : (State.flagsAfterFinal s).latch = s.latch := rfl
@[simp] theorem flagsAfterFinal_stepIndex : (State.flagsAfterFinal s).stepIndex = s.stepIndex := rfl
@[simp] theorem flagsAfterFinal_input : (State.flagsAfterFinal s).input = s.input := rfl
@[simp] theorem flagsAfterFinal_boundaryCount : (State.flagsAfterFinal s).boundaryCount = s.boundaryCount := rfl

/-! ### produceDigest -/

@[simp] theorem produceDigest_ctx : (produceDigest s).ctx = s.ctx := rfl
@[simp] theorem produceDigest_phase : (produceDigest s).phase = s.phase := rfl
@[simp] theorem produceDigest_digest : (produceDigest s).digest = serialise s.ctx.h := rfl
@[simp] theorem produceDigest_digestValid : (produceDigest s).digestValid = true := rfl
@[simp] theorem produceDigest_hex : (produceDigest s).hex = s.hex := rfl
@[simp] theorem produceDigest_hexValid : (produceDigest s).hexValid = false := rfl
@[simp] theorem produceDigest_raw : (produceDigest s).raw = s.raw := rfl
@[simp] theorem produceDigest_rawValid : (produceDigest s).rawValid = s.rawValid := rfl
@[simp] theorem produceDigest_matched : (produceDigest s).matched = false := rfl
@[simp] theorem produceDigest_errState : (produceDigest s).errState = s.errState := rfl
@[simp] theorem produceDigest_errIllegal : (produceDigest s).errIllegal = s.errIllegal := rfl
@[simp] theorem produceDigest_work : (produceDigest s).work = s.work := rfl
@[simp] theorem produceDigest_latch : (produceDigest s).latch = s.latch := rfl
@[simp] theorem produceDigest_stepIndex : (produceDigest s).stepIndex = s.stepIndex := rfl
@[simp] theorem produceDigest_input : (produceDigest s).input = s.input := rfl
@[simp] theorem produceDigest_boundaryCount : (produceDigest s).boundaryCount = s.boundaryCount := rfl

/-! ### absorbPadding -/

@[simp] theorem absorbPadding_ctx : (absorbPadding s).ctx = absorb (absorb s.ctx (padding (fill s.latch))) (bytesLE64 s.latch) := rfl
@[simp] theorem absorbPadding_phase : (absorbPadding s).phase = s.phase := rfl
@[simp] theorem absorbPadding_digest : (absorbPadding s).digest = s.digest := rfl
@[simp] theorem absorbPadding_digestValid : (absorbPadding s).digestValid = s.digestValid := rfl
@[simp] theorem absorbPadding_hex : (absorbPadding s).hex = s.hex := rfl
@[simp] theorem absorbPadding_hexValid : (absorbPadding s).hexValid = s.hexValid := rfl
@[simp] theorem absorbPadding_raw : (absorbPadding s).raw = s.raw := rfl
@[simp] theorem absorbPadding_rawValid : (absorbPadding s).rawValid = s.rawValid := rfl
@[simp] theorem absorbPadding_matched : (absorbPadding s).matched = s.matched := rfl
@[simp] theorem absorbPadding_errState : (absorbPadding s).errState = s.errState := rfl
@[simp] theorem absorbPadding_errIllegal : (absorbPadding s).errIllegal = s.errIllegal := rfl
@[simp] theorem absorbPadding_work : (absorbPadding s).work = s.work := rfl
@[simp] theorem absorbPadding_latch : (absorbPadding s).latch = s.latch := rfl
@[simp] theorem absorbPadding_stepIndex : (absorbPadding s).stepIndex = s.stepIndex := rfl
@[simp] theorem absorbPadding_input : (absorbPadding s).input = s.input := rfl
@[simp] theorem absorbPadding_boundaryCount : (absorbPadding s).boundaryCount = s.boundaryCount := rfl

/-! ### startCompress -/

@[simp] theorem startCompress_ctx : (startCompress s).ctx = s.ctx := rfl
@[simp] theorem startCompress_phase : (startCompress s).phase = s.phase := rfl
@[simp] theorem startCompress_digest : (startCompress s).digest = s.digest := rfl
@[simp] theorem startCompress_digestValid : (startCompress s).digestValid = s.digestValid := rfl
@[simp] theorem startCompress_hex : (startCompress s).hex = s.hex := rfl
@[simp] theorem startCompress_hexValid : (startCompress s).hexValid = s.hexValid := rfl
@[simp] theorem startCompress_raw : (startCompress s).raw = s.raw := rfl
@[simp] theorem startCompress_rawValid : (startCompress s).rawValid = s.rawValid := rfl
@[simp] theorem startCompress_matched : (startCompress s).matched = s.matched := rfl
@[simp] theorem startCompress_errState : (startCompress s).errState = s.errState := rfl
@[simp] theorem startCompress_errIllegal : (startCompress s).errIllegal = s.errIllegal := rfl
@[simp] theorem startCompress_work : (startCompress s).work = seedWork s.ctx.h s.ctx.buf := rfl
@[simp] theorem startCompress_latch : (startCompress s).latch = s.latch := rfl
@[simp] theorem startCompress_stepIndex : (startCompress s).stepIndex = some 0 := rfl
@[simp] theorem startCompress_input : (startCompress s).input = s.input := rfl
@[simp] theorem startCompress_boundaryCount : (startCompress s).boundaryCount = s.boundaryCount := rfl

/-! ### forgetHidden -/

@[simp] theorem forgetHidden_ctx : (forgetHidden s).ctx = s.ctx := rfl
@[simp] theorem forgetHidden_phase : (forgetHidden s).phase = s.phase := rfl
@[simp] theorem forgetHidden_digest : (forgetHidden s).digest = s.digest := rfl
@[simp] theorem forgetHidden_digestValid : (forgetHidden s).digestValid = s.digestValid := rfl
@[simp] theorem forgetHidden_hex : (forgetHidden s).hex = s.hex := rfl
@[simp] theorem forgetHidden_hexValid : (forgetHidden s).hexValid = s.hexValid := rfl
@[simp] theorem forgetHidden_raw : (forgetHidden s).raw = s.raw := rfl
@[simp] theorem forgetHidden_rawValid : (forgetHidden s).rawValid = s.rawValid := rfl
@[simp] theorem forgetHidden_matched : (forgetHidden s).matched = s.matched := rfl
@[simp] theorem forgetHidden_errState : (forgetHidden s).errState = s.errState := rfl
@[simp] theorem forgetHidden_errIllegal : (forgetHidden s).errIllegal = s.errIllegal := rfl
@[simp] theorem forgetHidden_work : (forgetHidden s).work = .zero := rfl
@[simp] theorem forgetHidden_latch : (forgetHidden s).latch = 0 := rfl
@[simp] theorem forgetHidden_stepIndex : (forgetHidden s).stepIndex = s.stepIndex := rfl
@[simp] theorem forgetHidden_input : (forgetHidden s).input = s.input := rfl
@[simp] theorem forgetHidden_boundaryCount : (forgetHidden s).boundaryCount = 0 := rfl

/-! ### The wiped context -/

@[simp] theorem context_zero_h : Context.zero.h = ⟨0, 0, 0, 0⟩ := rfl
@[simp] theorem context_zero_buf : Context.zero.buf = Vector.replicate 64 0 := rfl
@[simp] theorem context_zero_cnt : Context.zero.cnt = 0 := rfl

/-! ### A working variable -/

@[simp] theorem work_set_x (q : Work) (v : Word) (w : WorkVar) : (q.set v w).x = q.x := by cases w <;> rfl

theorem work_get_set (q : Work) (v : Word) (w u : WorkVar) : (q.set v w).get u = if u = w then v else q.get u := by
  cases w <;> cases u <;> rfl

end Sys2Proof.Laws
end

