-- ==== Sys2Proof/Laws/Compressor.lean ====
section
/-! SUPPORT. The Block Compressor: what a step operation's write and the sequencing change (spec/40_block_compressor.md R110 to R113). -/

namespace Sys2Proof.Laws

open Sys2Proof Sys2Proof.Machine

variable {s t : State}

/-- R110: a step operation's write leaves everything but the working variables. -/
theorem writeStep_next {w : WorkVar} {v : Word} (h : writeStep s w v = .next t) : t = { s with work := s.work.set v w } := by
  simpa [writeStep] using h.symm

/-- What `mapNext` answers a next state with. -/
theorem mapNext_next {f : State → State} {o : Outcome} (h : mapNext f o = .next t) : ∃ u, o = .next u ∧ t = f u := by
  cases o with
  | next u => exact ⟨u, rfl, by simpa [mapNext] using h.symm⟩
  | fault r => cases h
  | refused r => cases h

/-- R110: the generic step writes one working variable: the words of the block stay. -/
@[simp] theorem genericStep_x (i : BitVec 6) (q : Work) : (genericStep i q).x = q.x := by simp [genericStep]

/-- R110: a working variable other than the step's `w` keeps its value. -/
theorem genericStep_get_ne (i : BitVec 6) (q : Work) (u : WorkVar) (h : u ≠ (rolesOf i).w) :
    (genericStep i q).get u = q.get u := by
  simp [genericStep, work_get_set, h]

/-- R112, R113: what the end of an internal step changes: the index, and after step 63 `H`. -/
theorem advanceStep_of_ne {i : BitVec 6} (h : i ≠ 63) : advanceStep i s = { s with stepIndex := some (i + 1) } := if_neg h

theorem advanceStep_last : advanceStep 63 s = { s with ctx := { s.ctx with h := feedForward s.ctx.h s.work }, stepIndex := none } := rfl

@[simp] theorem advanceStep_phase (i : BitVec 6) : (advanceStep i s).phase = s.phase := by unfold advanceStep; split <;> rfl
@[simp] theorem advanceStep_buf (i : BitVec 6) : (advanceStep i s).ctx.buf = s.ctx.buf := by unfold advanceStep; split <;> rfl
@[simp] theorem advanceStep_cnt (i : BitVec 6) : (advanceStep i s).ctx.cnt = s.ctx.cnt := by unfold advanceStep; split <;> rfl
@[simp] theorem advanceStep_errState (i : BitVec 6) : (advanceStep i s).errState = s.errState := by unfold advanceStep; split <;> rfl
@[simp] theorem advanceStep_errIllegal (i : BitVec 6) : (advanceStep i s).errIllegal = s.errIllegal := by
  unfold advanceStep; split <;> rfl
@[simp] theorem advanceStep_input (i : BitVec 6) : (advanceStep i s).input = s.input := by unfold advanceStep; split <;> rfl

end Sys2Proof.Laws
end

