-- ==== Sys2Proof/Laws/Decode.lean ====
section
/-! SUPPORT. Lemmas of the decoder: the row of each opcode, the equation of each format, and the length fields. -/

namespace Sys2Proof.Laws

open Sys2Proof

@[simp] theorem wellFormed_update (p : List Byte) : WellFormed (.update p) ↔ p.length ≤ 65535 := by
  simp [WellFormed, Instr.wellFormed]
@[simp] theorem wellFormed_hexdec (p : List Byte) : WellFormed (.hexdec p) ↔ p.length ≤ 255 := by
  simp [WellFormed, Instr.wellFormed]
@[simp] theorem wellFormed_hexcmp (p : List Byte) : WellFormed (.hexcmp p) ↔ p.length ≤ 255 := by
  simp [WellFormed, Instr.wellFormed]

@[simp] theorem opcodeRow_init : opcodeRow 1#8 = some ⟨.init, 0x01, 0xff, .N⟩ := rfl
@[simp] theorem opcodeRow_update : opcodeRow 2#8 = some ⟨.update, 0x02, 0xff, .U⟩ := rfl
@[simp] theorem opcodeRow_final : opcodeRow 3#8 = some ⟨.final, 0x03, 0xff, .N⟩ := rfl
@[simp] theorem opcodeRow_hexenc : opcodeRow 16#8 = some ⟨.hexenc, 0x10, 0xff, .N⟩ := rfl
@[simp] theorem opcodeRow_hexdec : opcodeRow 17#8 = some ⟨.hexdec, 0x11, 0xff, .S⟩ := rfl
@[simp] theorem opcodeRow_hexcmp : opcodeRow 18#8 = some ⟨.hexcmp, 0x12, 0xff, .S⟩ := rfl

/-- The rows a byte can have: six, each for its own byte. -/
theorem opcodeRow_cases (op : Byte) :
    (op = 0x01 ∨ op = 0x02 ∨ op = 0x03 ∨ op = 0x10 ∨ op = 0x11 ∨ op = 0x12) ∨ opcodeRow op = none := by
  revert op; decide

theorem opcodeRow_none_of_undefined (op : Byte) (h : op ∉ [0x01, 0x02, 0x03, 0x10, 0x11, 0x12]) : opcodeRow op = none := by
  rcases opcodeRow_cases op with h' | h'
  · simp only [List.mem_cons, List.not_mem_nil, or_false] at h
    exact absurd h' h
  · exact h'

theorem decodeCommand_init (bytes : List Byte) : decodeCommand (0x01 :: bytes) = .instr .init bytes := rfl
theorem decodeCommand_final (bytes : List Byte) : decodeCommand (0x03 :: bytes) = .instr .final bytes := rfl
theorem decodeCommand_hexenc (bytes : List Byte) : decodeCommand (0x10 :: bytes) = .instr .hexenc bytes := rfl
theorem decodeCommand_update (low high : Byte) (bytes : List Byte) :
    decodeCommand (0x02 :: low :: high :: bytes) = decodePayload .update (lengthU low high) bytes := rfl
theorem decodeCommand_hexdec (len : Byte) (bytes : List Byte) :
    decodeCommand (0x11 :: len :: bytes) = decodePayload .hexdec (lengthS len) bytes := rfl
theorem decodeCommand_hexcmp (len : Byte) (bytes : List Byte) :
    decodeCommand (0x12 :: len :: bytes) = decodePayload .hexcmp (lengthS len) bytes := rfl

theorem decodeCommand_of_no_row (op : Byte) (bytes : List Byte) (h : opcodeRow op = none) :
    decodeCommand (op :: bytes) = .illegal op bytes := by
  simp [decodeCommand, h]

/-- A payload with all its bytes there. -/
theorem decodePayload_append (op : Opcode) (payload rest : List Byte) :
    decodePayload op payload.length (payload ++ rest) = .instr (op.instr payload) rest := by
  simp [decodePayload]

/-- A payload short of bytes. -/
theorem decodePayload_short (op : Opcode) (len : Nat) (bytes : List Byte) (h : bytes.length < len) :
    decodePayload op len bytes = .waiting (.payload op bytes (len - bytes.length)) := by
  simp [decodePayload, h]

/-- What a decoded payload says of the bytes. -/
theorem decodePayload_instr (op : Opcode) (len : Nat) (bytes : List Byte) (i : Instr) (rest : List Byte)
    (h : decodePayload op len bytes = .instr i rest) :
    ∃ payload, i = op.instr payload ∧ payload.length = len ∧ bytes = payload ++ rest := by
  simp only [decodePayload] at h
  split at h
  · cases h
  · simp only [Decoded.instr.injEq] at h
    exact ⟨bytes.take len, h.1.symm, by simp; omega, by rw [← h.2, List.take_append_drop]⟩

/-- R72: the length bytes of format U say the payload's length. -/
theorem lengthU_encode (n : Nat) (h : n ≤ 65535) : lengthU (BitVec.ofNat 8 n) (BitVec.ofNat 8 (n / 256)) = n := by
  simp only [lengthU, BitVec.toNat_ofNat]; omega

/-- R73: the length byte of format S says the payload's length. -/
theorem lengthS_encode (n : Nat) (h : n ≤ 255) : lengthS (BitVec.ofNat 8 n) = n := by
  simp only [lengthS, BitVec.toNat_ofNat]; omega

theorem lengthU_le (low high : Byte) : lengthU low high ≤ 65535 := by
  have := low.isLt; have := high.isLt; simp only [lengthU]; omega

theorem lengthS_le (len : Byte) : lengthS len ≤ 255 := by
  have := len.isLt; simp only [lengthS]; omega

/-- Two length bytes are the encoding of the length they say. -/
theorem encode_lengthU (low high : Byte) :
    BitVec.ofNat 8 (lengthU low high) = low ∧ BitVec.ofNat 8 (lengthU low high / 256) = high := by
  have := low.isLt; have := high.isLt
  constructor <;> apply BitVec.eq_of_toNat_eq <;> simp only [lengthU, BitVec.toNat_ofNat] <;> omega

theorem encode_lengthS (len : Byte) : BitVec.ofNat 8 (lengthS len) = len := by
  have := len.isLt
  apply BitVec.eq_of_toNat_eq; simp only [lengthS, BitVec.toNat_ofNat]; omega

end Sys2Proof.Laws
end

