-- ==== Sys2Proof/Laws/Effect.lean ====
section
/-! SUPPORT. Everything one instruction can do, said once over all instructions: the inversion later proofs cite instead of
unfolding the meanings. -/

namespace Sys2Proof.Laws

open Sys2Proof Sys2Proof.Machine

/-- The next states an instruction can have, each with what it takes: a step operation's write of working variables (R110), a
StateFault (R251), and the executed effect of each host command. -/
inductive Effect (i : Instr) (s : State) : State → Prop where
  | internal (q : Work) : isCommand i = false → Effect i s { s with work := q }
  | stateFault : ((i = .final ∨ ∃ p, i = .update p) ∧ s.phase ≠ .accum ∨ i = .hexenc ∧ s.digestValid = false) →
      Effect i s (raiseStateFault s)
  | init : i = .init →
      Effect i s (endCommand { s with ctx := { s.ctx with h := initialDigestState, cnt := 0 }, phase := .accum })
  | update (p : List Byte) : i = .update p → s.phase = .accum → Effect i s (endCommand { s with ctx := absorb s.ctx p })
  | final : i = .final → s.phase = .accum → Effect i s (endCommand (finalise s))
  | hexenc : i = .hexenc → s.digestValid = true → Effect i s (endCommand { s with hex := toHex s.digest, hexValid := true })
  | hexdecGood (p : List Byte) (r : Vector Byte 16) : i = .hexdec p → fromHex p = some r →
      Effect i s (endCommand { s with raw := r, rawValid := true })
  | hexdecBad (p : List Byte) : i = .hexdec p → fromHex p = none →
      Effect i s (endCommand { s with raw := Vector.replicate 16 0, rawValid := false })
  | hexcmp (p : List Byte) : i = .hexcmp p → Effect i s (endCommand { s with matched := compareFlag s p })

/-- The inversion of `exec`. -/
theorem effect_of_next {i : Instr} {s t : State} (h : exec i s = .next t) : Effect i s t := by
  have next_eq : ∀ {u : State} {o : Outcome}, o = .next t → o = .next u → u = t := by
    intro u o h1 h2; rw [h2] at h1; simpa using h1
  cases i with
  | init => exact next_eq h rfl ▸ .init rfl
  | update p =>
    by_cases hp : s.phase = .accum
    · exact next_eq h (u := endCommand { s with ctx := absorb s.ctx p }) (by simp [exec, execUpdate, hp]) ▸ .update p rfl hp
    · exact next_eq h (u := raiseStateFault s) (by simp [exec, execUpdate, hp]) ▸ .stateFault (.inl ⟨.inr ⟨p, rfl⟩, hp⟩)
  | final =>
    by_cases hp : s.phase = .accum
    · exact next_eq h (u := endCommand (finalise s)) (by simp [exec, execFinal, hp]) ▸ .final rfl hp
    · exact next_eq h (u := raiseStateFault s) (by simp [exec, execFinal, hp]) ▸ .stateFault (.inl ⟨.inl rfl, hp⟩)
  | hexenc =>
    cases hd : s.digestValid with
    | true =>
      exact next_eq h (u := endCommand { s with hex := toHex s.digest, hexValid := true }) (by simp [exec, execHexenc, hd]) ▸
        .hexenc rfl hd
    | false => exact next_eq h (u := raiseStateFault s) (by simp [exec, execHexenc, hd]) ▸ .stateFault (.inr ⟨rfl, hd⟩)
  | hexdec p =>
    cases hr : fromHex p with
    | some r =>
      exact next_eq h (u := endCommand { s with raw := r, rawValid := true }) (by simp [exec, execHexdec, hr]) ▸
        .hexdecGood p r rfl hr
    | none =>
      exact next_eq h (u := endCommand { s with raw := Vector.replicate 16 0, rawValid := false })
        (by simp [exec, execHexdec, hr]) ▸ .hexdecBad p rfl hr
  | hexcmp p => exact next_eq h rfl ▸ .hexcmp p rfl
  | _ => exact next_eq h rfl ▸ .internal _ rfl

/-- R78: the operations a step index selects are no host commands. -/
theorem isCommand_decodeStep (t : BitVec 6) : isCommand (decodeStep t) = false := by revert t; decide

end Sys2Proof.Laws
end

