-- ==== Sys2Proof/Laws/Engine.lean ====
section
/-! SUPPORT. The Digest Engine: the fill level, `absorb`, and the block-wise description of `absorb` (spec/41_digest_engine.md R202). -/

namespace Sys2Proof.Laws

open Sys2Proof Sys2Proof.Machine

/-! ### The fill level (R24) -/

theorem fill_add_8 (cnt : Count) : fill (cnt + 8) = (fill cnt + 1) % 64 := by
  have := cnt.isLt
  have h8 : (8 : Count).toNat = 8 := rfl
  simp only [fill, BitVec.toNat_add, h8]
  omega

theorem fill_zero : fill 0 = 0 := rfl

/-! ### absorb (R202) -/

@[simp] theorem absorb_nil (c : Context) : absorb c [] = c := rfl

@[simp] theorem absorb_cons (c : Context) (v : Byte) (bytes : List Byte) :
    absorb c (v :: bytes) = absorb (absorbByte c v) bytes := rfl

/-- R207: absorbing two sequences is absorbing their concatenation. -/
theorem absorb_append (c : Context) (p q : List Byte) : absorb c (p ++ q) = absorb (absorb c p) q := by
  simp [absorb, List.foldl_append]

theorem absorbByte_cnt (c : Context) (v : Byte) : (absorbByte c v).cnt = c.cnt + 8 := rfl

/-- R203: the count goes up by 8 a byte. -/
theorem absorb_cnt (c : Context) (bytes : List Byte) : (absorb c bytes).cnt = c.cnt + BitVec.ofNat 64 (8 * bytes.length) := by
  induction bytes generalizing c with
  | nil => simp
  | cons v bytes ih =>
    rw [absorb_cons, ih, absorbByte_cnt]
    have h8 : (8 : Count).toNat = 8 := rfl
    apply BitVec.eq_of_toNat_eq
    simp only [BitVec.toNat_add, BitVec.toNat_ofNat, List.length_cons, h8]
    omega

theorem absorb_cnt_toNat (c : Context) (bytes : List Byte) :
    (absorb c bytes).cnt.toNat = (c.cnt.toNat + 8 * bytes.length) % 2 ^ 64 := by
  rw [absorb_cnt]; simp only [BitVec.toNat_add, BitVec.toNat_ofNat]; omega

/-- R203: the fill afterwards. -/
theorem absorb_fill (c : Context) (bytes : List Byte) :
    fill (absorb c bytes).cnt = (fill c.cnt + bytes.length) % 64 := by
  induction bytes generalizing c with
  | nil => simp [Nat.mod_eq_of_lt (fill_lt c.cnt)]
  | cons v bytes ih =>
    rw [absorb_cons, ih, absorbByte_cnt, fill_add_8, List.length_cons]; omega

/-! ### The buffered bytes -/

theorem buffered_length (c : Context) : (buffered c).length = fill c.cnt := by
  have := fill_lt c.cnt
  simp [buffered]; omega

theorem buffered_of_fill_zero (c : Context) (h : fill c.cnt = 0) : buffered c = [] := by simp [buffered, h]

theorem take_succ_set {α : Type} (l : List α) (f : Nat) (v : α) (h : f < l.length) :
    (l.set f v).take (f + 1) = l.take f ++ [v] := by
  induction l generalizing f with
  | nil => simp at h
  | cons a l ih =>
    cases f with
    | zero => simp
    | succ f => simp at h; simp [ih f h]

/-- The buffer after one byte, up to and with that byte. -/
theorem absorbByte_buf_take (c : Context) (v : Byte) :
    (absorbByte c v).buf.toList.take (fill c.cnt + 1) = buffered c ++ [v] := by
  have h : (absorbByte c v).buf.toList = c.buf.toList.set (fill c.cnt) v := rfl
  rw [h, take_succ_set _ _ _ (by simpa using fill_lt c.cnt)]; rfl

/-- A byte that does not complete a block is buffered. -/
theorem buffered_absorbByte (c : Context) (v : Byte) (h : fill c.cnt ≠ 63) :
    buffered (absorbByte c v) = buffered c ++ [v] := by
  have := fill_lt c.cnt
  rw [← absorbByte_buf_take, buffered, absorbByte_cnt, fill_add_8, Nat.mod_eq_of_lt (by omega)]

theorem absorbByte_h (c : Context) (v : Byte) (h : fill c.cnt ≠ 63) : (absorbByte c v).h = c.h := by
  simp [absorbByte, h]

/-- A byte that completes a block has it compressed. -/
theorem absorbByte_h_full (c : Context) (v : Byte) (h : fill c.cnt = 63) :
    (absorbByte c v).h = compress c.h (absorbByte c v).buf := by simp [absorbByte, h]

theorem absorbByte_buf_full (c : Context) (v : Byte) (h : fill c.cnt = 63) :
    (absorbByte c v).buf.toList = buffered c ++ [v] := by
  rw [← absorbByte_buf_take, h, List.take_of_length_le (by simp)]

/-! ### Blocks -/

/-- The block at the head of a sequence that starts with a block's bytes. -/
theorem toBlock_append (b : Block) (bytes : List Byte) : toBlock (b.toList ++ bytes) = b := by
  apply Vector.ext
  intro i hi
  simp [toBlock, List.getD, List.getElem?_append_left]

@[simp] theorem compressBlocks_zero (h : DigestState) (bytes : List Byte) : compressBlocks 0 h bytes = h := rfl

/-- R202: `absorb` block by block: the full blocks of the buffered bytes and the new ones are compressed in order and the remainder
stays buffered. -/
theorem absorb_blocks (c : Context) (bytes : List Byte) :
    (absorb c bytes).h = compressBlocks ((fill c.cnt + bytes.length) / 64) c.h (buffered c ++ bytes) ∧
    buffered (absorb c bytes) = (buffered c ++ bytes).drop (64 * ((fill c.cnt + bytes.length) / 64)) := by
  induction bytes generalizing c with
  | nil =>
    have := fill_lt c.cnt
    have h0 : (fill c.cnt + ([] : List Byte).length) / 64 = 0 := by simp; omega
    rw [h0]; simp
  | cons v bytes ih =>
    have hlt := fill_lt c.cnt
    obtain ⟨ih1, ih2⟩ := ih (absorbByte c v)
    rw [absorb_cons]
    by_cases hf : fill c.cnt = 63
    · have hz : fill (absorbByte c v).cnt = 0 := by rw [absorbByte_cnt, fill_add_8, hf]
      have hn : (fill c.cnt + (v :: bytes).length) / 64 = bytes.length / 64 + 1 := by simp [hf]; omega
      have hs : buffered c ++ v :: bytes = (absorbByte c v).buf.toList ++ bytes := by
        rw [absorbByte_buf_full c v hf]; simp
      rw [hz, buffered_of_fill_zero _ hz, Nat.zero_add, List.nil_append] at ih1 ih2
      rw [hn, hs, ih1, ih2]
      constructor
      · rw [compressBlocks, toBlock_append, ← absorbByte_h_full c v hf]
        congr 1
        rw [List.drop_left' (by simp)]
      · rw [show 64 * (bytes.length / 64 + 1) = 64 + 64 * (bytes.length / 64) by ring, ← List.drop_drop,
          List.drop_left' (by simp)]
    · have hg : fill (absorbByte c v).cnt = fill c.cnt + 1 := by
        rw [absorbByte_cnt, fill_add_8, Nat.mod_eq_of_lt (by omega)]
      have hn : (fill c.cnt + (v :: bytes).length) / 64 = (fill (absorbByte c v).cnt + bytes.length) / 64 := by
        rw [hg, List.length_cons]; congr 1; omega
      have hs : buffered c ++ v :: bytes = buffered (absorbByte c v) ++ bytes := by
        rw [buffered_absorbByte c v hf]; simp
      rw [hn, hs, ih1, ih2, absorbByte_h c v hf]
      exact ⟨rfl, rfl⟩

/-! ### The commands, by the branch they take -/

variable {s : State}

/-- R203: `UPDATE` in ACCUM. -/
theorem execUpdate_accum (p : List Byte) (h : s.phase = .accum) :
    execUpdate p s = .next (endCommand { s with ctx := absorb s.ctx p }) := by simp [execUpdate, h]

/-- R251: `UPDATE` elsewhere. -/
theorem execUpdate_wrong_phase (p : List Byte) (h : s.phase ≠ .accum) : execUpdate p s = .next (raiseStateFault s) := by
  simp [execUpdate, h]

/-- R205: `FINAL` in ACCUM. -/
theorem execFinal_accum (h : s.phase = .accum) : execFinal s = .next (endCommand (finalise s)) := by simp [execFinal, h]

/-- R251: `FINAL` elsewhere. -/
theorem execFinal_wrong_phase (h : s.phase ≠ .accum) : execFinal s = .next (raiseStateFault s) := by simp [execFinal, h]

/-- R204: marker and zero run. -/
theorem padding_length (f : Nat) (h : f < 64) : (padding f).length = padLength f := by
  simp only [padding, List.length_cons, List.length_replicate, padLength]
  split <;> omega

/-- R205, R206: everything `FINAL` changes, as one record. -/
theorem finalise_eq (s : State) : finalise s =
    { s with
      ctx := .zero, phase := .finalized, latch := s.ctx.cnt
      digest := serialise (absorb s.ctx (padding (fill s.ctx.cnt) ++ bytesLE64 s.ctx.cnt)).h
      digestValid := true, hexValid := false, matched := false } := by
  rw [absorb_append]; rfl

@[simp] theorem finalise_phase (s : State) : (finalise s).phase = .finalized := by rw [finalise_eq]
@[simp] theorem finalise_digestValid (s : State) : (finalise s).digestValid = true := by rw [finalise_eq]
@[simp] theorem finalise_hex (s : State) : (finalise s).hex = s.hex := by rw [finalise_eq]
@[simp] theorem finalise_hexValid (s : State) : (finalise s).hexValid = false := by rw [finalise_eq]
@[simp] theorem finalise_raw (s : State) : (finalise s).raw = s.raw := by rw [finalise_eq]
@[simp] theorem finalise_rawValid (s : State) : (finalise s).rawValid = s.rawValid := by rw [finalise_eq]
@[simp] theorem finalise_matched (s : State) : (finalise s).matched = false := by rw [finalise_eq]
@[simp] theorem finalise_errState (s : State) : (finalise s).errState = s.errState := by rw [finalise_eq]
@[simp] theorem finalise_errIllegal (s : State) : (finalise s).errIllegal = s.errIllegal := by rw [finalise_eq]
@[simp] theorem finalise_work (s : State) : (finalise s).work = s.work := by rw [finalise_eq]
@[simp] theorem finalise_latch (s : State) : (finalise s).latch = s.ctx.cnt := by rw [finalise_eq]
@[simp] theorem finalise_stepIndex (s : State) : (finalise s).stepIndex = s.stepIndex := by rw [finalise_eq]
@[simp] theorem finalise_input (s : State) : (finalise s).input = s.input := by rw [finalise_eq]
@[simp] theorem finalise_boundaryCount (s : State) : (finalise s).boundaryCount = s.boundaryCount := by rw [finalise_eq]
@[simp] theorem finalise_ctx (s : State) : (finalise s).ctx = .zero := by rw [finalise_eq]
@[simp] theorem finalise_digest (s : State) :
    (finalise s).digest = serialise (absorb s.ctx (padding (fill s.ctx.cnt) ++ bytesLE64 s.ctx.cnt)).h := by rw [finalise_eq]

end Sys2Proof.Laws
end

