-- ==== Sys2Proof/Laws/HexCodec.lean ====
section
/-! SUPPORT. The Hex Codec: the characters of `toHex` one by one and what `fromHex` accepts (spec/42_hex_codec.md R231, R232). -/

namespace Sys2Proof.Laws

open Sys2Proof Sys2Proof.Machine

/-- R231: the even characters are the high nibbles. -/
theorem toHex_even (d : Vector Byte 16) (i : Nat) (h : i < 16) : (toHex d)[2 * i] = hexChar (d[i].extractLsb' 4 4) := by
  simp [toHex]

/-- R231: the odd characters are the low nibbles. -/
theorem toHex_odd (d : Vector Byte 16) (i : Nat) (h : i < 16) : (toHex d)[2 * i + 1] = hexChar (d[i].extractLsb' 0 4) := by
  simp [toHex, show (2 * i + 1) / 2 = i by omega]

/-- R232: the strings `fromHex` decodes, and what to. -/
theorem fromHex_eq_some {str : List Byte} {d : Vector Byte 16} (h : fromHex str = some d) :
    str.length = 32 ∧ (∀ c ∈ str, (hexVal c).isSome = true) ∧ d = Vector.ofFn fun i : Fin 16 => hexByte str i.val := by
  simp only [fromHex] at h
  split at h
  · rename_i hs
    simp only [Option.some.injEq] at h
    exact ⟨hs.1, by simpa using hs.2, h.symm⟩
  · cases h

/-- R232: a string of another length is refused. -/
theorem fromHex_of_length_ne {str : List Byte} (h : str.length ≠ 32) : fromHex str = none := by simp [fromHex, h]

/-- R232: a string with a byte outside the alphabet is refused. -/
theorem fromHex_of_bad_char {str : List Byte} {c : Byte} (h : c ∈ str) (hc : hexVal c = none) : fromHex str = none := by
  simp only [fromHex, List.all_eq_true]
  rw [if_neg]
  rintro ⟨-, ha⟩
  have := ha c h
  simp [hc] at this

end Sys2Proof.Laws
end

