-- ==== Sys2Proof/Laws/PerInstr.lean ====
section
/-! SUPPORT. Statements made per instruction, one lemma per constructor. `EncodedSize`: how many bytes an instruction has on the command
stream (spec/30_encoding.md R70 to R73); an internal step operation has none (R78). -/

namespace Sys2Proof.Laws.EncodedSize

open Sys2Proof

/-- R70 to R73, R78: the number of stream bytes of an instruction: 1, 3 + LEN or 2 + LEN for a command, the first of them an opcode
byte of the map; none for a step operation, which a step index selects. -/
def size : Instr → Nat
  | .init | .final | .hexenc => 1
  | .update payload => 3 + payload.length
  | .hexdec payload => 2 + payload.length
  | .hexcmp payload => 2 + payload.length
  | .step0 | .step1 | .step2 | .step3 | .step4 | .step5 | .step6 | .step7
  | .step8 | .step9 | .step10 | .step11 | .step12 | .step13 | .step14 | .step15
  | .step16 | .step17 | .step18 | .step19 | .step20 | .step21 | .step22 | .step23
  | .step24 | .step25 | .step26 | .step27 | .step28 | .step29 | .step30 | .step31
  | .step32 | .step33 | .step34 | .step35 | .step36 | .step37 | .step38 | .step39
  | .step40 | .step41 | .step42 | .step43 | .step44 | .step45 | .step46 | .step47
  | .step48 | .step49 | .step50 | .step51 | .step52 | .step53 | .step54 | .step55
  | .step56 | .step57 | .step58 | .step59 | .step60 | .step61 | .step62 | .step63 => 0

/-- What is said of each instruction. -/
def Statement (i : Instr) : Prop :=
  WellFormed i → (encodeBytes i).length = size i ∧ ∀ op ∈ (encodeBytes i).head?, opcodeRow op ≠ none

theorem init : Statement .init := fun _ => by decide
theorem update (payload : List Byte) : Statement (.update payload) := fun _ =>
  ⟨by simp [encodeBytes, encode, encodeLengthU, size]; omega, by simp [encodeBytes, encode]⟩
theorem final : Statement .final := fun _ => by decide
theorem hexenc : Statement .hexenc := fun _ => by decide
theorem hexdec (payload : List Byte) : Statement (.hexdec payload) := fun _ =>
  ⟨by simp [encodeBytes, encode, encodeLengthS, size]; omega, by simp [encodeBytes, encode]⟩
theorem hexcmp (payload : List Byte) : Statement (.hexcmp payload) := fun _ =>
  ⟨by simp [encodeBytes, encode, encodeLengthS, size]; omega, by simp [encodeBytes, encode]⟩
theorem step0 : Statement .step0 := fun _ => by decide
theorem step1 : Statement .step1 := fun _ => by decide
theorem step2 : Statement .step2 := fun _ => by decide
theorem step3 : Statement .step3 := fun _ => by decide
theorem step4 : Statement .step4 := fun _ => by decide
theorem step5 : Statement .step5 := fun _ => by decide
theorem step6 : Statement .step6 := fun _ => by decide
theorem step7 : Statement .step7 := fun _ => by decide
theorem step8 : Statement .step8 := fun _ => by decide
theorem step9 : Statement .step9 := fun _ => by decide
theorem step10 : Statement .step10 := fun _ => by decide
theorem step11 : Statement .step11 := fun _ => by decide
theorem step12 : Statement .step12 := fun _ => by decide
theorem step13 : Statement .step13 := fun _ => by decide
theorem step14 : Statement .step14 := fun _ => by decide
theorem step15 : Statement .step15 := fun _ => by decide
theorem step16 : Statement .step16 := fun _ => by decide
theorem step17 : Statement .step17 := fun _ => by decide
theorem step18 : Statement .step18 := fun _ => by decide
theorem step19 : Statement .step19 := fun _ => by decide
theorem step20 : Statement .step20 := fun _ => by decide
theorem step21 : Statement .step21 := fun _ => by decide
theorem step22 : Statement .step22 := fun _ => by decide
theorem step23 : Statement .step23 := fun _ => by decide
theorem step24 : Statement .step24 := fun _ => by decide
theorem step25 : Statement .step25 := fun _ => by decide
theorem step26 : Statement .step26 := fun _ => by decide
theorem step27 : Statement .step27 := fun _ => by decide
theorem step28 : Statement .step28 := fun _ => by decide
theorem step29 : Statement .step29 := fun _ => by decide
theorem step30 : Statement .step30 := fun _ => by decide
theorem step31 : Statement .step31 := fun _ => by decide
theorem step32 : Statement .step32 := fun _ => by decide
theorem step33 : Statement .step33 := fun _ => by decide
theorem step34 : Statement .step34 := fun _ => by decide
theorem step35 : Statement .step35 := fun _ => by decide
theorem step36 : Statement .step36 := fun _ => by decide
theorem step37 : Statement .step37 := fun _ => by decide
theorem step38 : Statement .step38 := fun _ => by decide
theorem step39 : Statement .step39 := fun _ => by decide
theorem step40 : Statement .step40 := fun _ => by decide
theorem step41 : Statement .step41 := fun _ => by decide
theorem step42 : Statement .step42 := fun _ => by decide
theorem step43 : Statement .step43 := fun _ => by decide
theorem step44 : Statement .step44 := fun _ => by decide
theorem step45 : Statement .step45 := fun _ => by decide
theorem step46 : Statement .step46 := fun _ => by decide
theorem step47 : Statement .step47 := fun _ => by decide
theorem step48 : Statement .step48 := fun _ => by decide
theorem step49 : Statement .step49 := fun _ => by decide
theorem step50 : Statement .step50 := fun _ => by decide
theorem step51 : Statement .step51 := fun _ => by decide
theorem step52 : Statement .step52 := fun _ => by decide
theorem step53 : Statement .step53 := fun _ => by decide
theorem step54 : Statement .step54 := fun _ => by decide
theorem step55 : Statement .step55 := fun _ => by decide
theorem step56 : Statement .step56 := fun _ => by decide
theorem step57 : Statement .step57 := fun _ => by decide
theorem step58 : Statement .step58 := fun _ => by decide
theorem step59 : Statement .step59 := fun _ => by decide
theorem step60 : Statement .step60 := fun _ => by decide
theorem step61 : Statement .step61 := fun _ => by decide
theorem step62 : Statement .step62 := fun _ => by decide
theorem step63 : Statement .step63 := fun _ => by decide

end Sys2Proof.Laws.EncodedSize
end

