-- ==== Sys2Proof/Laws/Step.lean ====
section
/-! SUPPORT. The step of the machine: one equation per thing the fetch can find, the inversion of a step, and runs of steps. -/

namespace Sys2Proof.Laws

open Sys2Proof Sys2Proof.Machine

variable {s t : State}

/-- R252: a halted core has no step. -/
theorem step_halted (h : s.errIllegal = true) : step s = .fault .halted := by simp [step, fetch, h]

/-- R78: inside a `compress` the step is the selected operation's, and the index goes on. -/
theorem step_internal {i : BitVec 6} (h : s.errIllegal = false) (hi : s.stepIndex = some i) :
    step s = mapNext (advanceStep i) (exec (decodeStep i) s) := by simp [step, fetch, h, hi]

/-- R58, R70: at a boundary the step is the meaning of the decoded command, its bytes consumed. -/
theorem step_command {i : Instr} {rest : List Byte} (h : s.errIllegal = false) (hi : s.stepIndex = none)
    (hd : decodeCommand s.input = .instr i rest) : step s = exec i (consume s rest) := by
  simp [step, fetch, h, hi, hd]

/-- R76, R252: at a boundary an illegal opcode. -/
theorem step_illegal {op : Byte} {rest : List Byte} (h : s.errIllegal = false) (hi : s.stepIndex = none)
    (hd : decodeCommand s.input = .illegal op rest) : step s = .next (raiseIllegalCommand (consume s rest)) := by
  simp [step, fetch, h, hi, hd]

/-- R271: at a boundary with no byte. -/
theorem step_idle (h : s.errIllegal = false) (hi : s.stepIndex = none) (hd : s.input = []) : step s = .next s := by
  simp [step, fetch, h, hi, hd, decodeCommand]

/-- R77: inside a command. -/
theorem step_truncated {p : Position} (h : s.errIllegal = false) (hi : s.stepIndex = none)
    (hd : decodeCommand s.input = .waiting p) (hp : p ≠ .opcode) : step s = .fault .truncatedCommand := by
  simp [step, fetch, h, hi, hd, hp]

/-- Everything a step that answers a next state can have done. -/
theorem step_cases (h : step s = .next t) :
    s.errIllegal = false ∧
      ((∃ i u, s.stepIndex = some i ∧ exec (decodeStep i) s = .next u ∧ t = advanceStep i u) ∨
       (∃ i rest, s.stepIndex = none ∧ decodeCommand s.input = .instr i rest ∧ exec i (consume s rest) = .next t) ∨
       (∃ op rest, s.stepIndex = none ∧ decodeCommand s.input = .illegal op rest ∧
         t = raiseIllegalCommand (consume s rest)) ∨
       (s.stepIndex = none ∧ s.input = [] ∧ t = s)) := by
  cases he : s.errIllegal with
  | true => simp [step_halted he] at h
  | false =>
    refine ⟨rfl, ?_⟩
    cases hi : s.stepIndex with
    | some i =>
      rw [step_internal he hi] at h
      cases hx : exec (decodeStep i) s with
      | next u => simp [hx, mapNext] at h; exact .inl ⟨i, u, rfl, hx, h.symm⟩
      | fault r => simp [hx, mapNext] at h
      | refused r => simp [hx, mapNext] at h
    | none =>
      right
      cases hd : decodeCommand s.input with
      | instr i rest => rw [step_command he hi hd] at h; exact .inl ⟨i, rest, rfl, rfl, h⟩
      | illegal op rest =>
        rw [step_illegal he hi hd] at h
        simp at h; exact .inr (.inl ⟨op, rest, rfl, rfl, h.symm⟩)
      | waiting p =>
        by_cases hp : p = .opcode
        · subst hp
          have hn : s.input = [] := by
            cases hs : s.input with
            | nil => rfl
            | cons op bytes =>
              rw [hs] at hd
              simp only [decodeCommand, decodePayload] at hd
              (repeat' split at hd) <;> cases hd
          rw [step_idle he hi hn] at h
          simp at h; exact .inr (.inr ⟨rfl, hn, h.symm⟩)
        · rw [step_truncated he hi hd hp] at h; cases h

/-! ### Runs -/

theorem run_zero : Sys2Proof.core.run 0 s = .next s := rfl

theorem run_succ_of_next {n : Nat} (h : step s = .next t) : Sys2Proof.core.run (n + 1) s = Sys2Proof.core.run n t := by
  have h' : Sys2Proof.core.step s = .next t := h
  simp only [Host.Core.run, h']

/-- A run of `m + n` steps is one of `m` and then one of `n`. -/
theorem run_add_of_next {m n : Nat} (h : Sys2Proof.core.run m s = .next t) :
    Sys2Proof.core.run (m + n) s = Sys2Proof.core.run n t := by
  induction m generalizing s with
  | zero => rw [run_zero] at h; cases h; rw [Nat.zero_add]
  | succ m ih =>
    cases hs : step s with
    | next u =>
      rw [run_succ_of_next hs] at h
      rw [show m + 1 + n = (m + n) + 1 by omega, run_succ_of_next hs, ih h]
    | fault r => simp [Host.Core.run, Sys2Proof.core, hs] at h
    | refused r => simp [Host.Core.run, Sys2Proof.core, hs] at h

end Sys2Proof.Laws
end

