-- ==== Sys2Proof/Tests/Slice0.lean ====
section
/-! SUPPORT. The model's own tests: the well-formedness smoke, decoding of words written out from the spec's encodings, single steps
against the vectors of spec/95_test_vectors.md, and for every obligation with hypotheses a witness that meets them. -/

namespace Sys2Proof.Tests

open Sys2Proof Sys2Proof.Machine

/-! ### Helpers -/

/-- A field of the next state an instruction gives, none where it gives no next state. -/
def after {α : Type} (i : Instr) (s : State) (f : State → α) : Option α :=
  match exec i s with
  | .next t => some (f t)
  | .fault _ => none
  | .refused _ => none

/-- A field of the state after one step of the machine. -/
def stepped {α : Type} (s : State) (f : State → α) : Option α :=
  match step s with
  | .next t => some (f t)
  | .fault _ => none
  | .refused _ => none

theorem next_of_after {i : Instr} {s : State} {f : State → Bool} (h : after i s f = some true) :
    ∃ t, exec i s = .next t ∧ f t = true := by
  unfold after at h
  split at h
  · rename_i t ht
    exact ⟨t, ht, by simpa using h⟩
  · cases h
  · cases h

theorem next_of_stepped {s : State} {f : State → Bool} (h : stepped s f = some true) :
    ∃ t, step s = .next t ∧ f t = true := by
  unfold stepped at h
  split at h
  · rename_i t ht
    exact ⟨t, ht, by simpa using h⟩
  · cases h
  · cases h

/-- A digest begun and nothing absorbed. -/
def begun : State := { State.reset with ctx := { Context.zero with h := initialDigestState }, phase := .accum }

/-- The message "abc" absorbed: D6, third row. -/
def abcAbsorbed : State :=
  { begun with ctx := ⟨initialDigestState, #v[0x61, 0x62, 0x63, 0, 0, 0, 0, 0, 0, 0, 0, 0, 0, 0, 0, 0, 0, 0, 0, 0, 0, 0, 0, 0, 0, 0, 0, 0, 0, 0, 0, 0, 0, 0, 0, 0, 0, 0, 0, 0, 0, 0, 0, 0, 0, 0, 0, 0, 0, 0, 0, 0, 0, 0, 0, 0, 0, 0, 0, 0, 0, 0, 0, 0], 24⟩ }

/-- The digest of "abc" (S2). -/
def abcDigest : Vector Byte 16 := #v[0x90, 0x01, 0x50, 0x98, 0x3c, 0xd2, 0x4f, 0xb0, 0xd6, 0x96, 0x3f, 0x7d, 0x28, 0xe1, 0x7f, 0x72]

/-- The 32 characters of that digest. -/
def abcHex : List Byte := [0x39, 0x30, 0x30, 0x31, 0x35, 0x30, 0x39, 0x38, 0x33, 0x63, 0x64, 0x32, 0x34, 0x66, 0x62, 0x30, 0x64, 0x36, 0x39, 0x36, 0x33, 0x66, 0x37, 0x64, 0x32, 0x38, 0x65, 0x31, 0x37, 0x66, 0x37, 0x32]

/-- That digest produced. -/
def abcFinished : State := { State.reset with phase := .finalized, digest := abcDigest, digestValid := true }

/-- That digest produced and rendered. -/
def abcRendered : State := { abcFinished with hex := ⟨abcHex.toArray, rfl⟩, hexValid := true }

/-- The words of the block of "abc" (T2). -/
def abcWords : Vector Word 16 := #v[0x80636261, 0, 0, 0, 0, 0, 0, 0, 0, 0, 0, 0, 0, 0, 0x00000018, 0]

/-- Inside the `compress` of that block, with these working variables. -/
def inside (a b c d : Word) : State := { begun with work := ⟨a, b, c, d, abcWords⟩ }

/-- The working variables after an operation begun with these. -/
def working (i : Instr) (a b c d : Word) : Option (Word × Word × Word × Word) :=
  after i (inside a b c d) fun s => (s.work.a, s.work.b, s.work.c, s.work.d)

/-! ### Well-formedness: one ill-formed term for each check -/

theorem test_update_of_65536_bytes_is_refused : (Instr.update (List.replicate 65536 0)).wellFormed = false := by
  simp only [Instr.wellFormed, List.length_replicate]; decide
theorem test_hexdec_of_256_bytes_is_refused : (Instr.hexdec (List.replicate 256 0)).wellFormed = false := by
  simp only [Instr.wellFormed, List.length_replicate]; decide
theorem test_hexcmp_of_256_bytes_is_refused : (Instr.hexcmp (List.replicate 256 0)).wellFormed = false := by
  simp only [Instr.wellFormed, List.length_replicate]; decide
theorem test_longest_operands_are_accepted : (Instr.update (List.replicate 65535 0)).wellFormed = true ∧
    (Instr.hexdec (List.replicate 255 0)).wellFormed = true ∧ (Instr.hexcmp (List.replicate 255 0)).wellFormed = true := by
  simp only [Instr.wellFormed, List.length_replicate]; decide

/-! ### Decoding: words written out from R71 to R74 and R78 -/

theorem test_decode_init : decode (.bytes [0b00000001]) = .instr .init [] := by decide
theorem test_decode_update : decode (.bytes [0b00000010, 0x03, 0x00, 0x61, 0x62, 0x63]) = .instr (.update [0x61, 0x62, 0x63]) [] := by
  decide
theorem test_decode_final : decode (.bytes [0b00000011]) = .instr .final [] := by decide
theorem test_decode_hexenc : decode (.bytes [0b00010000]) = .instr .hexenc [] := by decide
theorem test_decode_hexdec : decode (.bytes [0b00010001, 0x02, 0x39, 0x30]) = .instr (.hexdec [0x39, 0x30]) [] := by decide
theorem test_decode_hexcmp : decode (.bytes [0b00010010, 0x01, 0x39]) = .instr (.hexcmp [0x39]) [] := by decide

theorem test_decode_step0_to_step7 : [0b000000, 0b000001, 0b000010, 0b000011, 0b000100, 0b000101, 0b000110, 0b000111].map (fun t => decode (.selector t)) =
    [.instr .step0 [], .instr .step1 [], .instr .step2 [], .instr .step3 [], .instr .step4 [], .instr .step5 [], .instr .step6 [], .instr .step7 []] := by decide
theorem test_decode_step8_to_step15 : [0b001000, 0b001001, 0b001010, 0b001011, 0b001100, 0b001101, 0b001110, 0b001111].map (fun t => decode (.selector t)) =
    [.instr .step8 [], .instr .step9 [], .instr .step10 [], .instr .step11 [], .instr .step12 [], .instr .step13 [], .instr .step14 [], .instr .step15 []] := by decide
theorem test_decode_step16_to_step23 : [0b010000, 0b010001, 0b010010, 0b010011, 0b010100, 0b010101, 0b010110, 0b010111].map (fun t => decode (.selector t)) =
    [.instr .step16 [], .instr .step17 [], .instr .step18 [], .instr .step19 [], .instr .step20 [], .instr .step21 [], .instr .step22 [], .instr .step23 []] := by decide
theorem test_decode_step24_to_step31 : [0b011000, 0b011001, 0b011010, 0b011011, 0b011100, 0b011101, 0b011110, 0b011111].map (fun t => decode (.selector t)) =
    [.instr .step24 [], .instr .step25 [], .instr .step26 [], .instr .step27 [], .instr .step28 [], .instr .step29 [], .instr .step30 [], .instr .step31 []] := by decide
theorem test_decode_step32_to_step39 : [0b100000, 0b100001, 0b100010, 0b100011, 0b100100, 0b100101, 0b100110, 0b100111].map (fun t => decode (.selector t)) =
    [.instr .step32 [], .instr .step33 [], .instr .step34 [], .instr .step35 [], .instr .step36 [], .instr .step37 [], .instr .step38 [], .instr .step39 []] := by decide
theorem test_decode_step40_to_step47 : [0b101000, 0b101001, 0b101010, 0b101011, 0b101100, 0b101101, 0b101110, 0b101111].map (fun t => decode (.selector t)) =
    [.instr .step40 [], .instr .step41 [], .instr .step42 [], .instr .step43 [], .instr .step44 [], .instr .step45 [], .instr .step46 [], .instr .step47 []] := by decide
theorem test_decode_step48_to_step55 : [0b110000, 0b110001, 0b110010, 0b110011, 0b110100, 0b110101, 0b110110, 0b110111].map (fun t => decode (.selector t)) =
    [.instr .step48 [], .instr .step49 [], .instr .step50 [], .instr .step51 [], .instr .step52 [], .instr .step53 [], .instr .step54 [], .instr .step55 []] := by decide
theorem test_decode_step56_to_step63 : [0b111000, 0b111001, 0b111010, 0b111011, 0b111100, 0b111101, 0b111110, 0b111111].map (fun t => decode (.selector t)) =
    [.instr .step56 [], .instr .step57 [], .instr .step58 [], .instr .step59 [], .instr .step60 [], .instr .step61 [], .instr .step62 [], .instr .step63 []] := by decide

/-- D13, ninth row: a payload byte is data; the opcode after it is the next command. -/
theorem test_payload_byte_is_no_opcode : decodeCommand [0x02, 0x01, 0x00, 0xff, 0x03] = .instr (.update [0xff]) [0x03] := by decide
/-- R72: the low length byte comes first. -/
theorem test_length_is_little_endian : decodeCommand [0x02, 0x01, 0x02, 0xaa] = .waiting (.payload .update [0xaa] 512) := by decide
/-- R76. -/
theorem test_undefined_opcodes : [0x00, 0x04, 0x0f, 0x13, 0x21, 0x81, 0xff].map (fun op => decodeCommand [op, 0x01]) =
    [.illegal 0x00 [0x01], .illegal 0x04 [0x01], .illegal 0x0f [0x01], .illegal 0x13 [0x01], .illegal 0x21 [0x01],
     .illegal 0x81 [0x01], .illegal 0xff [0x01]] := by decide
/-- R77: where the decoder waits. -/
theorem test_positions : [[], [0x02], [0x02, 0x03], [0x11], [0x12, 0x02, 0x30]].map decodeCommand =
    [.waiting .opcode, .waiting (.lengthLow .update), .waiting (.lengthHigh .update 0x03), .waiting (.lengthByte .hexdec),
     .waiting (.payload .hexcmp [0x30] 1)] := by decide
/-- R74: no byte matches two rows of the opcode map. -/
theorem test_opcode_rows_do_not_overlap : ∀ op : Byte, (opcodeMap.filter fun row => op &&& row.mask == row.code).length ≤ 1 := by
  decide
/-- The table's numbers (log entry 4). -/
theorem test_table_words : [(8, 0x01), (8, 0x02), (24, 0x000002), (8, 0x03), (8, 0x10), (16, 0x0011), (8, 0x12), (8, 0x00), (6, 0x01),
      (8, 0x3f)].map (fun p => decodeTableWord p.1 p.2) =
    [some .init, some (.update []), some (.update []), some .final, some .hexenc, some (.hexdec []), some (.hexcmp []), some .step0,
     some .step1, some .step63] := by decide

/-! ### The 64 step operations: trace T2, one row each -/

theorem test_step0 : working .step0 0x67452301 0xefcdab89 0x98badcfe 0x10325476 = some (0xd6d117b4, 0xefcdab89, 0x98badcfe, 0x10325476) := by decide
theorem test_step1 : working .step1 0xd6d117b4 0xefcdab89 0x98badcfe 0x10325476 = some (0xd6d117b4, 0xefcdab89, 0x98badcfe, 0x344a8432) := by decide
theorem test_step2 : working .step2 0xd6d117b4 0xefcdab89 0x98badcfe 0x344a8432 = some (0xd6d117b4, 0xefcdab89, 0x2f6fbd72, 0x344a8432) := by decide
theorem test_step3 : working .step3 0xd6d117b4 0xefcdab89 0x2f6fbd72 0x344a8432 = some (0xd6d117b4, 0x7ad956f2, 0x2f6fbd72, 0x344a8432) := by decide
theorem test_step4 : working .step4 0xd6d117b4 0x7ad956f2 0x2f6fbd72 0x344a8432 = some (0xc73741ef, 0x7ad956f2, 0x2f6fbd72, 0x344a8432) := by decide
theorem test_step5 : working .step5 0xc73741ef 0x7ad956f2 0x2f6fbd72 0x344a8432 = some (0xc73741ef, 0x7ad956f2, 0x2f6fbd72, 0x8bac3051) := by decide
theorem test_step6 : working .step6 0xc73741ef 0x7ad956f2 0x2f6fbd72 0x8bac3051 = some (0xc73741ef, 0x7ad956f2, 0x207dc67b, 0x8bac3051) := by decide
theorem test_step7 : working .step7 0xc73741ef 0x7ad956f2 0x207dc67b 0x8bac3051 = some (0xc73741ef, 0x928d99f6, 0x207dc67b, 0x8bac3051) := by decide
theorem test_step8 : working .step8 0xc73741ef 0x928d99f6 0x207dc67b 0x8bac3051 = some (0x854b3712, 0x928d99f6, 0x207dc67b, 0x8bac3051) := by decide
theorem test_step9 : working .step9 0x854b3712 0x928d99f6 0x207dc67b 0x8bac3051 = some (0x854b3712, 0x928d99f6, 0x207dc67b, 0x74e2f284) := by decide
theorem test_step10 : working .step10 0x854b3712 0x928d99f6 0x207dc67b 0x74e2f284 = some (0x854b3712, 0x928d99f6, 0x3020401c, 0x74e2f284) := by decide
theorem test_step11 : working .step11 0x854b3712 0x928d99f6 0x3020401c 0x74e2f284 = some (0x854b3712, 0x5ed49596, 0x3020401c, 0x74e2f284) := by decide
theorem test_step12 : working .step12 0x854b3712 0x5ed49596 0x3020401c 0x74e2f284 = some (0xdda9b9a6, 0x5ed49596, 0x3020401c, 0x74e2f284) := by decide
theorem test_step13 : working .step13 0xdda9b9a6 0x5ed49596 0x3020401c 0x74e2f284 = some (0xdda9b9a6, 0x5ed49596, 0x3020401c, 0xa1051895) := by decide
theorem test_step14 : working .step14 0xdda9b9a6 0x5ed49596 0x3020401c 0xa1051895 = some (0xdda9b9a6, 0x5ed49596, 0xe396856b, 0xa1051895) := by decide
theorem test_step15 : working .step15 0xdda9b9a6 0x5ed49596 0xe396856b 0xa1051895 = some (0xdda9b9a6, 0x72aff2e0, 0xe396856b, 0xa1051895) := by decide
theorem test_step16 : working .step16 0xdda9b9a6 0x72aff2e0 0xe396856b 0xa1051895 = some (0x3e9e9126, 0x72aff2e0, 0xe396856b, 0xa1051895) := by decide
theorem test_step17 : working .step17 0x3e9e9126 0x72aff2e0 0xe396856b 0xa1051895 = some (0x3e9e9126, 0x72aff2e0, 0xe396856b, 0x4a1d804e) := by decide
theorem test_step18 : working .step18 0x3e9e9126 0x72aff2e0 0xe396856b 0x4a1d804e = some (0x3e9e9126, 0x72aff2e0, 0xe25e1652, 0x4a1d804e) := by decide
theorem test_step19 : working .step19 0x3e9e9126 0x72aff2e0 0xe25e1652 0x4a1d804e = some (0x3e9e9126, 0xb5b204e4, 0xe25e1652, 0x4a1d804e) := by decide
theorem test_step20 : working .step20 0x3e9e9126 0xb5b204e4 0xe25e1652 0x4a1d804e = some (0x59a8ffda, 0xb5b204e4, 0xe25e1652, 0x4a1d804e) := by decide
theorem test_step21 : working .step21 0x59a8ffda 0xb5b204e4 0xe25e1652 0x4a1d804e = some (0x59a8ffda, 0xb5b204e4, 0xe25e1652, 0x6d002f1e) := by decide
theorem test_step22 : working .step22 0x59a8ffda 0xb5b204e4 0xe25e1652 0x6d002f1e = some (0x59a8ffda, 0xb5b204e4, 0xabfc7920, 0x6d002f1e) := by decide
theorem test_step23 : working .step23 0x59a8ffda 0xb5b204e4 0xabfc7920 0x6d002f1e = some (0x59a8ffda, 0x47092c07, 0xabfc7920, 0x6d002f1e) := by decide
theorem test_step24 : working .step24 0x59a8ffda 0x47092c07 0xabfc7920 0x6d002f1e = some (0xb7f268cf, 0x47092c07, 0xabfc7920, 0x6d002f1e) := by decide
theorem test_step25 : working .step25 0xb7f268cf 0x47092c07 0xabfc7920 0x6d002f1e = some (0xb7f268cf, 0x47092c07, 0xabfc7920, 0x09388eff) := by decide
theorem test_step26 : working .step26 0xb7f268cf 0x47092c07 0xabfc7920 0x09388eff = some (0xb7f268cf, 0x47092c07, 0xfe1623b1, 0x09388eff) := by decide
theorem test_step27 : working .step27 0xb7f268cf 0x47092c07 0xfe1623b1 0x09388eff = some (0xb7f268cf, 0x786acb8f, 0xfe1623b1, 0x09388eff) := by decide
theorem test_step28 : working .step28 0xb7f268cf 0x786acb8f 0xfe1623b1 0x09388eff = some (0x790a77fb, 0x786acb8f, 0xfe1623b1, 0x09388eff) := by decide
theorem test_step29 : working .step29 0x790a77fb 0x786acb8f 0xfe1623b1 0x09388eff = some (0x790a77fb, 0x786acb8f, 0xfe1623b1, 0x9f47e4f8) := by decide
theorem test_step30 : working .step30 0x790a77fb 0x786acb8f 0xfe1623b1 0x9f47e4f8 = some (0x790a77fb, 0x786acb8f, 0xa62884aa, 0x9f47e4f8) := by decide
theorem test_step31 : working .step31 0x790a77fb 0x786acb8f 0xa62884aa 0x9f47e4f8 = some (0x790a77fb, 0x726342d3, 0xa62884aa, 0x9f47e4f8) := by decide
theorem test_step32 : working .step32 0x790a77fb 0x726342d3 0xa62884aa 0x9f47e4f8 = some (0xb3707ebf, 0x726342d3, 0xa62884aa, 0x9f47e4f8) := by decide
theorem test_step33 : working .step33 0xb3707ebf 0x726342d3 0xa62884aa 0x9f47e4f8 = some (0xb3707ebf, 0x726342d3, 0xa62884aa, 0x60127b2e) := by decide
theorem test_step34 : working .step34 0xb3707ebf 0x726342d3 0xa62884aa 0x60127b2e = some (0xb3707ebf, 0x726342d3, 0x8d212ff5, 0x60127b2e) := by decide
theorem test_step35 : working .step35 0xb3707ebf 0x726342d3 0x8d212ff5 0x60127b2e = some (0xb3707ebf, 0x3b0875c7, 0x8d212ff5, 0x60127b2e) := by decide
theorem test_step36 : working .step36 0xb3707ebf 0x3b0875c7 0x8d212ff5 0x60127b2e = some (0x21b117b9, 0x3b0875c7, 0x8d212ff5, 0x60127b2e) := by decide
theorem test_step37 : working .step37 0x21b117b9 0x3b0875c7 0x8d212ff5 0x60127b2e = some (0x21b117b9, 0x3b0875c7, 0x8d212ff5, 0x6e7429d5) := by decide
theorem test_step38 : working .step38 0x21b117b9 0x3b0875c7 0x8d212ff5 0x6e7429d5 = some (0x21b117b9, 0x3b0875c7, 0x3575227e, 0x6e7429d5) := by decide
theorem test_step39 : working .step39 0x21b117b9 0x3b0875c7 0x3575227e 0x6e7429d5 = some (0x21b117b9, 0x5a2f5ea5, 0x3575227e, 0x6e7429d5) := by decide
theorem test_step40 : working .step40 0x21b117b9 0x5a2f5ea5 0x3575227e 0x6e7429d5 = some (0x11de1779, 0x5a2f5ea5, 0x3575227e, 0x6e7429d5) := by decide
theorem test_step41 : working .step41 0x11de1779 0x5a2f5ea5 0x3575227e 0x6e7429d5 = some (0x11de1779, 0x5a2f5ea5, 0x3575227e, 0xfadcaa38) := by decide
theorem test_step42 : working .step42 0x11de1779 0x5a2f5ea5 0x3575227e 0xfadcaa38 = some (0x11de1779, 0x5a2f5ea5, 0x31c465ca, 0xfadcaa38) := by decide
theorem test_step43 : working .step43 0x11de1779 0x5a2f5ea5 0x31c465ca 0xfadcaa38 = some (0x11de1779, 0x4c6124f4, 0x31c465ca, 0xfadcaa38) := by decide
theorem test_step44 : working .step44 0x11de1779 0x4c6124f4 0x31c465ca 0xfadcaa38 = some (0x7f2e507b, 0x4c6124f4, 0x31c465ca, 0xfadcaa38) := by decide
theorem test_step45 : working .step45 0x7f2e507b 0x4c6124f4 0x31c465ca 0xfadcaa38 = some (0x7f2e507b, 0x4c6124f4, 0x31c465ca, 0x99d9679d) := by decide
theorem test_step46 : working .step46 0x7f2e507b 0x4c6124f4 0x31c465ca 0x99d9679d = some (0x7f2e507b, 0x4c6124f4, 0x8fae6399, 0x99d9679d) := by decide
theorem test_step47 : working .step47 0x7f2e507b 0x4c6124f4 0x8fae6399 0x99d9679d = some (0x7f2e507b, 0x7beb9700, 0x8fae6399, 0x99d9679d) := by decide
theorem test_step48 : working .step48 0x7f2e507b 0x7beb9700 0x8fae6399 0x99d9679d = some (0x7b201df8, 0x7beb9700, 0x8fae6399, 0x99d9679d) := by decide
theorem test_step49 : working .step49 0x7b201df8 0x7beb9700 0x8fae6399 0x99d9679d = some (0x7b201df8, 0x7beb9700, 0x8fae6399, 0xf4e8e96e) := by decide
theorem test_step50 : working .step50 0x7b201df8 0x7beb9700 0x8fae6399 0xf4e8e96e = some (0x7b201df8, 0x7beb9700, 0xb298cefd, 0xf4e8e96e) := by decide
theorem test_step51 : working .step51 0x7b201df8 0x7beb9700 0xb298cefd 0xf4e8e96e = some (0x7b201df8, 0x8bf025c4, 0xb298cefd, 0xf4e8e96e) := by decide
theorem test_step52 : working .step52 0x7b201df8 0x8bf025c4 0xb298cefd 0xf4e8e96e = some (0x06cc5e8a, 0x8bf025c4, 0xb298cefd, 0xf4e8e96e) := by decide
theorem test_step53 : working .step53 0x06cc5e8a 0x8bf025c4 0xb298cefd 0xf4e8e96e = some (0x06cc5e8a, 0x8bf025c4, 0xb298cefd, 0x5b0d97aa) := by decide
theorem test_step54 : working .step54 0x06cc5e8a 0x8bf025c4 0xb298cefd 0x5b0d97aa = some (0x06cc5e8a, 0x8bf025c4, 0x7d632dd0, 0x5b0d97aa) := by decide
theorem test_step55 : working .step55 0x06cc5e8a 0x8bf025c4 0x7d632dd0 0x5b0d97aa = some (0x06cc5e8a, 0x3bfa2c27, 0x7d632dd0, 0x5b0d97aa) := by decide
theorem test_step56 : working .step56 0x06cc5e8a 0x3bfa2c27 0x7d632dd0 0x5b0d97aa = some (0x7f81cc35, 0x3bfa2c27, 0x7d632dd0, 0x5b0d97aa) := by decide
theorem test_step57 : working .step57 0x7f81cc35 0x3bfa2c27 0x7d632dd0 0x5b0d97aa = some (0x7f81cc35, 0x3bfa2c27, 0x7d632dd0, 0x094454ab) := by decide
theorem test_step58 : working .step58 0x7f81cc35 0x3bfa2c27 0x7d632dd0 0x094454ab = some (0x7f81cc35, 0x3bfa2c27, 0x4f9dbe3f, 0x094454ab) := by decide
theorem test_step59 : working .step59 0x7f81cc35 0x3bfa2c27 0x4f9dbe3f 0x094454ab = some (0x7f81cc35, 0x7327d604, 0x4f9dbe3f, 0x094454ab) := by decide
theorem test_step60 : working .step60 0x7f81cc35 0x7327d604 0x4f9dbe3f 0x094454ab = some (0x310ade8f, 0x7327d604, 0x4f9dbe3f, 0x094454ab) := by decide
theorem test_step61 : working .step61 0x310ade8f 0x7327d604 0x4f9dbe3f 0x094454ab = some (0x310ade8f, 0x7327d604, 0x4f9dbe3f, 0x624d8cb2) := by decide
theorem test_step62 : working .step62 0x310ade8f 0x7327d604 0x4f9dbe3f 0x624d8cb2 = some (0x310ade8f, 0x7327d604, 0xe484b9d8, 0x624d8cb2) := by decide
theorem test_step63 : working .step63 0x310ade8f 0x7327d604 0xe484b9d8 0x624d8cb2 = some (0x310ade8f, 0xc08226b3, 0xe484b9d8, 0x624d8cb2) := by decide

/-! ### The compressor's functions -/

/-- D1, all eight rows. -/
def roundVectors : List (Word × Word × Word × Word × Word × Word × Word) :=
  [(0xefcdab89, 0x98badcfe, 0x10325476, 0x98badcfe, 0x88888888, 0x67452301, 0x77777777),
   (0x00000000, 0x00000000, 0x00000000, 0x00000000, 0x00000000, 0x00000000, 0xffffffff),
   (0xffffffff, 0xffffffff, 0xffffffff, 0xffffffff, 0xffffffff, 0xffffffff, 0x00000000),
   (0xffffffff, 0x00000000, 0x00000000, 0x00000000, 0x00000000, 0xffffffff, 0xffffffff),
   (0x00000000, 0xffffffff, 0x00000000, 0x00000000, 0xffffffff, 0xffffffff, 0x00000000),
   (0x00000000, 0x00000000, 0xffffffff, 0xffffffff, 0x00000000, 0xffffffff, 0x00000000),
   (0x12345678, 0x9abcdef0, 0x0f1e2d3c, 0x1f3e7f74, 0x92b4d6f8, 0x8796a5b4, 0x6849080b),
   (0xa5a5a5a5, 0x5a5a5a5a, 0xffff0000, 0x5a5a0000, 0xa5a55a5a, 0x0000ffff, 0xffffa5a5)]

theorem test_round_functions : roundVectors.map (fun v => (F1 v.1 v.2.1 v.2.2.1, F2 v.1 v.2.1 v.2.2.1, F3 v.1 v.2.1 v.2.2.1,
    F4 v.1 v.2.1 v.2.2.1)) = roundVectors.map (fun v => v.2.2.2) := by decide

/-- D2. -/
theorem test_rotations : [rotl32 0x80000000 1, rotl32 0x00000001 31, rotl32 0x12345678 4, rotl32 0x12345678 7, rotl32 0x12345678 12, rotl32 0x12345678 17, rotl32 0x12345678 22, rotl32 0x12345678 23, rotl32 0xffffffff 16, rotl32 0x00000000 5, rotl32 0xdeadbeef 20] =
    [0x00000001, 0x80000000, 0x23456781, 0x1a2b3c09, 0x45678123, 0xacf02468, 0x9e048d15, 0x3c091a2b, 0xffffffff, 0x00000000, 0xeefdeadb] := by decide
/-- D2: sums wrap. -/
theorem test_sums_wrap : (0xffffffff + 0x00000001 : Word) = 0 ∧ (0xefcdab89 + 0x14e45506 : Word) = 0x04b2008f ∧
    (0xffffffff + 0xffffffff + 0xffffffff + 0xffffffff : Word) = 0xfffffffc ∧ (0xfffffffffffffff8 + 8 : Count) = 0 := by decide
/-- D3. -/
theorem test_byte_order : le32 0x61 0x62 0x63 0x80 = 0x80636261 ∧ bytesLE32 0xd98c1dd4 = [0xd4, 0x1d, 0x8c, 0xd9] ∧
    bytesLE64 0x0123456789abcdef = [0xef, 0xcd, 0xab, 0x89, 0x67, 0x45, 0x23, 0x01] := by decide

/-- The block of bytes 00 01 ... 3f (D4). -/
def countingBlock : Block := Vector.ofFn fun i : Fin 64 => BitVec.ofNat 8 i.val

set_option maxRecDepth 100000 in
/-- D4, fourth row. -/
theorem test_compress_of_initial_state : compress initialDigestState countingBlock =
    ⟨0x9144d9ca, 0xd901e4c9, 0x72fc5b38, 0x625ff51e⟩ := by decide
set_option maxRecDepth 100000 in
/-- D4, fifth row. -/
theorem test_compress_of_other_state : compress ⟨0x01234567, 0x89abcdef, 0xfedcba98, 0x76543210⟩ countingBlock =
    ⟨0x8490ffa8, 0x07293d80, 0xa1190bba, 0x537c31d9⟩ := by decide
/-- R107 and R108 as tables: in each round every one of the sixteen words is used exactly once. -/
theorem test_each_round_uses_each_word_once : ∀ (r : BitVec 2) (j : Fin 16), ∃ i : BitVec 4, scheduleOf (r ++ i) = j ∧
    ∀ i', scheduleOf (r ++ i') = j → i' = i := by decide
/-- T2: after step 63 the feed-forward is in `H` and the `compress` is over. -/
theorem test_last_step_feeds_forward : stepped { inside 0x310ade8f 0x7327d604 0xe484b9d8 0x624d8cb2 with stepIndex := some 63 } (fun s => (s.ctx.h, s.stepIndex)) =
    some (⟨0x98500190, 0xb04fd23c, 0x7d3f96d6, 0x727fe128⟩, none) := by decide

/-! ### The engine -/

/-- R201's example. -/
theorem test_init : after .init State.reset (fun s => (s.ctx.h, s.ctx.cnt, status s)) =
    some (⟨0x67452301, 0xefcdab89, 0x98badcfe, 0x10325476⟩, 0, 0x01) := by decide
/-- D6, ninth row: `INIT` does not write `BUF`. -/
theorem test_init_keeps_stale_bytes : after .init abcAbsorbed (fun s => (s.ctx.cnt, s.ctx.buf.toList.take 3)) =
    some (0, [0x61, 0x62, 0x63]) := by decide
/-- R203's example. -/
theorem test_update : after (.update [0x61, 0x62, 0x63]) begun (fun s => (s.ctx, status s)) = some (abcAbsorbed.ctx, 0x01) := by decide
/-- D13, first row. -/
theorem test_update_before_init : after (.update [0x61]) State.reset id = some { State.reset with errState := true } := by decide
set_option maxRecDepth 100000 in
/-- S2, and D6's last row. -/
theorem test_final : after .final abcAbsorbed (fun s => (s.digest, s.ctx, status s)) = some (abcDigest, Context.zero, 0x06) := by decide
/-- D13, fourth row: a second `FINAL`. -/
theorem test_second_final : after .final abcFinished id = some { abcFinished with errState := true } := by decide
set_option maxRecDepth 100000 in
/-- D12: the counter wraps, the block is compressed. -/
theorem test_absorb_at_the_wrap : absorb ⟨initialDigestState, countingBlock, 0xfffffffffffffff8⟩ [0xaa] =
    ⟨⟨0x9e623d84, 0xb29c049f, 0x3dedb11c, 0x16ca4c9e⟩, countingBlock.set 63 0xaa, 0⟩ := by decide
/-- D5: marker and zero run at the fills of R204's table. -/
theorem test_padding_lengths : [0, 1, 54, 55, 56, 57, 62, 63].map padLength = [56, 55, 2, 1, 64, 63, 58, 57] := by decide
set_option maxRecDepth 100000 in
/-- D5, the row of 56 bytes: two blocks. -/
theorem test_two_block_message : (md5 (List.replicate 56 0x61)).toList = [0x3b, 0x0c, 0x8a, 0xc7, 0x03, 0xf8, 0x28, 0xb0, 0x4c, 0x6c, 0x19, 0x70, 0x06, 0xd1, 0x72, 0x18] := by decide

/-! ### The codec -/

/-- R231's example. -/
theorem test_hexenc : after .hexenc { abcFinished with digest := #v[0xd4, 0x1d, 0x8c, 0xd9, 0x8f, 0x00, 0xb2, 0x04, 0xe9, 0x80, 0x09, 0x98, 0xec, 0xf8, 0x42, 0x7e] } (fun s => (s.hex.toList, status s)) =
    some ([0x64, 0x34, 0x31, 0x64, 0x38, 0x63, 0x64, 0x39, 0x38, 0x66, 0x30, 0x30, 0x62, 0x32, 0x30, 0x34, 0x65, 0x39, 0x38, 0x30, 0x30, 0x39, 0x39, 0x38, 0x65, 0x63, 0x66, 0x38, 0x34, 0x32, 0x37, 0x65], 0x0e) := by decide
/-- D13, third row. -/
theorem test_hexenc_without_digest : after .hexenc State.reset id = some { State.reset with errState := true } := by decide
/-- D7, `HEXDEC` row 1. -/
theorem test_hexdec : after (.hexdec abcHex) State.reset (fun s => (s.raw, status s)) = some (abcDigest, 0x10) := by decide
/-- D7, `HEXDEC` row 7: upper case; an earlier result is cleared, and it is no fault. -/
theorem test_hexdec_upper_case : after (.hexdec [0x39, 0x30, 0x30, 0x31, 0x35, 0x30, 0x39, 0x38, 0x33, 0x43, 0x44, 0x32, 0x34, 0x46, 0x42, 0x30, 0x44, 0x36, 0x39, 0x36, 0x33, 0x46, 0x37, 0x44, 0x32, 0x38, 0x45, 0x31, 0x37, 0x46, 0x37, 0x32]) { State.reset with raw := abcDigest, rawValid := true } (fun s => (s.raw, status s)) =
    some (Vector.replicate 16 0, 0x00) := by decide
/-- D7, `HEXDEC` rows 4, 5, 6, 8, 9, 10, 11, 12, 13. -/
theorem test_hexdec_malformed : [abcHex.take 31, abcHex ++ [0x30], [], abcHex.set 31 0x67, abcHex.set 31 0x60, abcHex.set 31 0x2f,
    abcHex.set 31 0x3a, abcHex.set 0 0x20, abcHex.set 31 0x0a].map fromHex = List.replicate 9 none := by decide
/-- D7, `HEXCMP` row 1. -/
theorem test_hexcmp : after (.hexcmp abcHex) abcRendered status = some 0x2e := by decide
/-- D7, `HEXCMP` row 8: equal bytes while no string is valid. -/
theorem test_hexcmp_without_string : after (.hexcmp (List.replicate 32 0)) State.reset status = some 0x00 := by decide
/-- D7, `HEXCMP` rows 2 to 7. -/
theorem test_hexcmp_unequal : [abcHex.set 31 0x33, abcHex.set 0 0x38, [0x39, 0x30, 0x30, 0x31, 0x35, 0x30, 0x39, 0x38, 0x33, 0x43, 0x44, 0x32, 0x34, 0x46, 0x42, 0x30, 0x44, 0x36, 0x39, 0x36, 0x33, 0x46, 0x37, 0x44, 0x32, 0x38, 0x45, 0x31, 0x37, 0x46, 0x37, 0x32], abcHex.take 31, abcHex ++ [0x0a], []].map
    (compareFlag abcRendered) = List.replicate 6 false := by decide

/-! ### The step -/

/-- D13, fifth row: a faulting `UPDATE` is consumed with its payload. -/
theorem test_faulting_update_is_consumed : stepped { abcFinished with input := [0x02, 0x03, 0x00, 0x61, 0x62, 0x63, 0x01] }
    (fun s => (s.input, status s)) = some ([0x01], 0x46) := by decide
/-- D13, seventh and eighth rows: an illegal opcode. -/
theorem test_illegal_opcode : stepped { State.reset with input := [0x00] } status = some 0x80 ∧
    stepped { begun with input := [0x04] } status = some 0x81 := by decide
/-- R252: the halted core has no step and takes no byte. -/
theorem test_halted : step { State.reset with errIllegal := true, input := [0x01] } = .fault .halted ∧
    transfer { State.reset with errIllegal := true } [0x01] = { State.reset with errIllegal := true } := by
  constructor <;> rfl
/-- R77: inside a command. -/
theorem test_truncated : step { State.reset with input := [0x02, 0x02, 0x00, 0x61] } = .fault .truncatedCommand := by rfl
/-- R270: reset ends a halt. -/
theorem test_reset_ends_halt : acceptsByte (applyReset { abcRendered with errIllegal := true }) = true ∧
    status (applyReset { abcRendered with errIllegal := true }) = 0x00 := by decide
/-- R16, R56: what the host reads after P2, and that inside a command it reads nothing. -/
theorem test_observation : (observe abcRendered).map (fun p => (p.status, p.digest, p.accepts)) =
      some (0x0e, 0x727fe1287d3f96d6b04fd23c98500190, true) ∧
    observe { abcRendered with input := [0x12, 0x20] } = none := by decide
/-- Log entry 5: an instruction placed at the fetch runs at the next step. -/
theorem test_placed_word_runs : stepped (State.reset.withFetchWord 8 0x01) (fun s => (status s, s.input)) = some (0x01, []) ∧
    stepped (State.reset.withFetchWord 6 0x3f) (fun s => s.stepIndex) = some none := by decide

/-! ### The assembler (R79, R80) -/

/-- P3: a comment after an operand; R79: the two spellings of one byte string. -/
theorem test_assemble_commands : (match assemble [['I', 'N', 'I', 'T'],
      ['U', 'P', 'D', 'A', 'T', 'E', ' ', '\"', 'y', '\"', ' ', ' ', ' ', ';', ' ', 'u', 's', 'a', 'g', 'e'],
      ['U', 'P', 'D', 'A', 'T', 'E', ' ', 'x', '\"', '6', '1', '6', '2', '6', '3', '\"'],
      ['F', 'I', 'N', 'A', 'L']] with
    | .ok is => some (encodeStream is)
    | .error _ => none) = some [0x01, 0x02, 0x01, 0x00, 0x79, 0x02, 0x03, 0x00, 0x61, 0x62, 0x63, 0x03] := by decide
/-- R79: an escape, and the empty string. -/
theorem test_assemble_escape : (match assemble [['H', 'E', 'X', 'C', 'M', 'P', ' ', '\"', 'a', '\\', 'x', '0', 'a', '\"'],
      ['U', 'P', 'D', 'A', 'T', 'E', ' ', '\"', '\"']] with
    | .ok is => some (encodeStream is)
    | .error _ => none) = some [0x12, 0x02, 0x61, 0x0a, 0x02, 0x00, 0x00] := by decide
/-- R80: `DIGEST` of the empty string has no `UPDATE`; `VERIFY`. -/
theorem test_assemble_pseudo : (match assemble [['D', 'I', 'G', 'E', 'S', 'T', ' ', '\"', '\"'],
      ['V', 'E', 'R', 'I', 'F', 'Y', ' ', '\"', 'a', '\"', ',', ' ', '\"', 'b', '\"']] with
    | .ok is => some (encodeStream is)
    | .error _ => none) = some [0x01, 0x03, 0x01, 0x02, 0x01, 0x00, 0x61, 0x03, 0x10, 0x12, 0x01, 0x62] := by decide
/-- R79: refused lines. -/
theorem test_assembler_refuses : [['N', 'O', 'P'], ['U', 'P', 'D', 'A', 'T', 'E'], ['I', 'N', 'I', 'T', ' ', '\"', 'a', '\"'], ['H', 'E', 'X', 'D', 'E', 'C', ' ', 'x', '\"', '6', '\"']].map assembleLine =
    [.error .unknownMnemonic, .error .badOperand, .error .trailingText, .error .badOperand] := by decide

/-! ### Witnesses: for each obligation with hypotheses, states and operands that meet them, one for each clause -/

theorem witness_DecodeOfEncode : (WellFormed (.update [0x61]) ∧ encode (.update [0x61]) = .bytes [0x02, 0x01, 0x00, 0x61]) ∧
    (WellFormed (.hexdec []) ∧ encode (.hexdec []) = .bytes [0x11, 0x00]) ∧
    WellFormed .step63 ∧ encode .step63 = .selector 63 := by decide
theorem witness_EncodeOfDecode : decodeCommand [0x12, 0x01, 0x39, 0x01] = .instr (.hexcmp [0x39]) [0x01] := by decide
theorem witness_ProperPrefix : WellFormed (.hexdec [0x30]) ∧ encode (.hexdec [0x30]) = .bytes [0x11, 0x01, 0x30] ∧
    0 < [0x11, 0x01, 0x30].length ∧ 2 < [0x11, 0x01, 0x30].length := by decide
theorem witness_UndefinedOpcodes : ((0x00 : Byte) ∉ [0x01, 0x02, 0x03, 0x10, 0x11, 0x12] ∧
    (0x13 : Byte) ∉ [0x01, 0x02, 0x03, 0x10, 0x11, 0x12]) ∧ (0x12 : Byte) ∈ [0x01, 0x02, 0x03, 0x10, 0x11, 0x12] := by decide
theorem witness_FetchWord : (decodeTableWord 8 0x03 = some .final ∧ isCommand .final = true) ∧
    decodeTableWord 8 0x3f = some .step63 ∧ isCommand .step63 = false := by decide
theorem witness_RoundFunctions : 0 < 32 ∧ 31 < 32 := by decide
theorem witness_LittleEndian : (0 < 4 ∧ 3 < 4) ∧ (0 < 8 ∧ 7 < 8) ∧ 0 < 16 ∧ 15 < 16 := by decide
theorem witness_Rotation : (1 ≤ 1 ∧ 1 ≤ 31) ∧ (1 ≤ 31 ∧ 31 ≤ 31) ∧ 0 < 32 ∧ 31 < 32 := by decide
theorem witness_SixtyFourSteps : begun.errIllegal = false ∧ 0 < 64 ∧ 63 < 64 := by decide
theorem witness_Update : begun.phase = .accum ∧ State.reset.phase ≠ .accum ∧ abcFinished.phase ≠ .accum := by decide
theorem witness_UpdateStores : abcAbsorbed.phase = .accum ∧ (0 < [0x78, 0x79].length ∧ [0x78, 0x79].length ≤ 0 + 64) ∧
    (1 < [0x78, 0x79].length ∧ [0x78, 0x79].length ≤ 1 + 64) ∧
    (∀ p < [0x78, 0x79].length, (fill abcAbsorbed.ctx.cnt + p) % 64 ≠ 2) ∧
    (∀ p < [0x78, 0x79].length, (fill abcAbsorbed.ctx.cnt + p) % 64 ≠ 5) := by decide
theorem witness_Chunking : begun.phase = .accum ∧
    ([[0x61], [], [0x62, 0x63]] : List (List Byte)).flatten = [[0x61, 0x62, 0x63]].flatten := by decide
theorem witness_Padding : (0 < 64 ∧ 63 < 64) ∧ fill abcAbsorbed.ctx.cnt ≤ 55 ∧ ¬ fill (8 * 56) ≤ 55 := by decide
theorem witness_CompressionCounts : begun.ctx.cnt = 0 := by decide

theorem abcAbsorbed_inv : BoundaryInvariant abcAbsorbed := by constructor <;> decide
theorem abcRendered_inv : BoundaryInvariant abcRendered := by constructor <;> decide

theorem witness_ContextZero : (BoundaryInvariant abcAbsorbed ∧ abcAbsorbed.phase = .accum) ∧
    BoundaryInvariant abcRendered ∧ abcRendered.phase ≠ .accum := ⟨⟨abcAbsorbed_inv, rfl⟩, abcRendered_inv, by decide⟩
theorem witness_Streams : abcFinished.errIllegal = false ∧ abcFinished.stepIndex = none ∧ abcFinished.input = [] ∧
    ([] : List Byte).length ≤ 255 ∧ abcHex.length ≤ 255 ∧ (List.replicate 255 (0 : Byte)).length ≤ 255 := by
  simp only [List.length_replicate]; decide
theorem witness_HexCharacters : (hexVal 0x30 = some 0 ∧ hexVal 0x39 = some 9 ∧ hexVal 0x61 = some 10 ∧ hexVal 0x66 = some 15) ∧
    hexVal 0x2f = none ∧ hexVal 0x3a = none ∧ hexVal 0x60 = none ∧ hexVal 0x67 = none := by decide
theorem witness_Hexenc : abcFinished.digestValid = true ∧ begun.digestValid = false ∧ 0 < 16 ∧ 15 < 16 := by decide
theorem witness_Hexdec : (abcHex.length = 32 ∧ (∀ c ∈ abcHex, hexVal c ≠ none) ∧ abcHex[2 * 15]?.bind hexVal = some 7 ∧
      abcHex[2 * 15 + 1]?.bind hexVal = some 2) ∧
    ¬ ((abcHex.take 31).length = 32 ∧ ∀ c ∈ abcHex.take 31, hexVal c ≠ none) ∧
    ¬ ((abcHex.set 31 0x67).length = 32 ∧ ∀ c ∈ abcHex.set 31 0x67, hexVal c ≠ none) := by decide
theorem witness_Hexcmp : abcRendered.hexValid = true ∧ abcHex.length = 32 ∧ 31 < 32 ∧ abcHex[31]? = some abcRendered.hex[31] := by
  decide
theorem witness_HexRoundTrip : fromHex abcHex = some abcDigest ∧ abcFinished.digestValid = true := by decide
theorem witness_StateFault : State.reset.phase ≠ .accum ∧ abcFinished.phase ≠ .accum ∧ begun.digestValid = false ∧
    ∃ t, exec .hexenc abcFinished = .next t ∧
      ¬ (abcFinished.phase ≠ .accum ∧ (Instr.hexenc = .final ∨ ∃ payload, Instr.hexenc = .update payload)) ∧
      ¬ (abcFinished.digestValid = false ∧ Instr.hexenc = .hexenc) :=
  ⟨by decide, by decide, by decide, _, rfl, by simp, by simp [abcFinished]⟩
theorem witness_FaultingUpdateBytes : WellFormed (.update [0x61]) ∧ abcFinished.phase ≠ .accum ∧ abcFinished.errIllegal = false ∧
    abcFinished.stepIndex = none ∧
    ({ abcFinished with input := [0x02, 0x01, 0x00, 0x61, 0x01] } : State).input = encodeBytes (.update [0x61]) ++ [0x01] := by decide

set_option maxRecDepth 100000 in
/-- Each premise of the writers' list is met by an instruction of the list. -/
theorem witness_OnlyTheListedCommandsWrite :
    (∃ t, exec .init State.reset = .next t ∧ decide (t.ctx.h ≠ State.reset.ctx.h ∧ t.phase ≠ State.reset.phase) = true) ∧
    (∃ t, exec (.update [0x78]) begun = .next t ∧ decide (t.ctx.buf ≠ begun.ctx.buf ∧ t.ctx.cnt ≠ begun.ctx.cnt) = true) ∧
    (∃ t, exec .final abcAbsorbed = .next t ∧
      decide (t.digest ≠ abcAbsorbed.digest ∧ t.digestValid ≠ abcAbsorbed.digestValid) = true) ∧
    (∃ t, exec .hexenc abcFinished = .next t ∧
      decide (t.hex ≠ abcFinished.hex ∧ t.hexValid ≠ abcFinished.hexValid) = true) ∧
    (∃ t, exec (.hexdec abcHex) State.reset = .next t ∧
      decide (t.raw ≠ State.reset.raw ∧ t.rawValid ≠ State.reset.rawValid) = true) ∧
    (∃ t, exec (.hexcmp abcHex) abcRendered = .next t ∧ decide (t.matched ≠ abcRendered.matched) = true) ∧
    (∃ t, exec .final State.reset = .next t ∧ decide (t.errState ≠ State.reset.errState) = true) :=
  ⟨next_of_after (by decide), next_of_after (by decide), next_of_after (by decide), next_of_after (by decide),
    next_of_after (by decide), next_of_after (by decide), next_of_after (by decide)⟩
set_option maxRecDepth 100000 in
theorem witness_PhaseMoves : (∃ t, exec .init abcFinished = .next t ∧ decide (t.phase = .accum) = true) ∧
    (∃ t, exec .final abcAbsorbed = .next t ∧ decide (t.phase = .finalized) = true) ∧
    (∃ t, exec .final abcFinished = .next t ∧ decide (t.phase = .finalized) = true) ∧
    (∃ t, exec .step0 begun = .next t ∧ decide (t.phase = .accum) = true) :=
  ⟨next_of_after (by decide), next_of_after (by decide), next_of_after (by decide), next_of_after (by decide)⟩
theorem witness_HiddenState : isCommand (.update []) = true ∧ SameButHidden begun (inside 1 2 3 4) ∧ begun ≠ inside 1 2 3 4 :=
  ⟨by decide, rfl, by decide⟩
theorem witness_ContextReachesNoPort : Instr.hexenc ≠ .final ∧ SameButContext begun abcAbsorbed ∧ begun ≠ abcAbsorbed :=
  ⟨by decide, rfl, by decide⟩
theorem witness_StepRunsDecodedCommand : begun.errIllegal = false ∧ begun.stepIndex = none ∧
    decodeCommand ({ begun with input := [0x02, 0x01, 0x00, 0x61, 0x03] } : State).input = .instr (.update [0x61]) [0x03] := by decide
theorem witness_StepRunsSelected : begun.errIllegal = false ∧ ({ begun with stepIndex := some 63 } : State).stepIndex = some 63 ∧
    ({ begun with stepIndex := some 62 } : State).stepIndex = some 62 := by decide
theorem witness_IllegalOpcode : begun.errIllegal = false ∧ begun.stepIndex = none ∧
    ({ begun with input := [0xff, 0x01] } : State).input = 0xff :: [0x01] ∧
    (0xff : Byte) ∉ [0x01, 0x02, 0x03, 0x10, 0x11, 0x12] := by decide
theorem witness_Truncated : WellFormed (.update [0x61]) ∧ encode (.update [0x61]) = .bytes [0x02, 0x01, 0x00, 0x61] ∧
    (0 < 1 ∧ 1 < [0x02, 0x01, 0x00, 0x61].length) ∧ (0 < 3 ∧ 3 < [0x02, 0x01, 0x00, 0x61].length) ∧
    begun.errIllegal = false ∧ begun.stepIndex = none ∧
    ({ begun with input := [0x02, 0x01, 0x00] } : State).input = ([0x02, 0x01, 0x00, 0x61] : List Byte).take 3 := by decide
theorem witness_Idle : begun.errIllegal = false ∧ begun.stepIndex = none ∧ begun.input = [] := by decide
theorem witness_FaultFlags : ∃ t, step { begun with errState := true, input := [0x04] } = .next t ∧
    (t.errState && t.errIllegal) = true := next_of_stepped (by decide)
/-- A command, an illegal opcode and an internal step, each from a state that meets the invariants. -/
theorem witness_EveryStepKeepsInvariants :
    (BoundaryInvariant { abcRendered with input := [0x01] } ∧
      ∃ t, step { abcRendered with input := [0x01] } = .next t ∧ decide (t.phase = .accum) = true) ∧
    (BoundaryInvariant { abcRendered with input := [0x04] } ∧
      ∃ t, step { abcRendered with input := [0x04] } = .next t ∧ t.errIllegal = true) ∧
    (BoundaryInvariant { abcAbsorbed with stepIndex := some 0 } ∧
      ∃ t, step { abcAbsorbed with stepIndex := some 0 } = .next t ∧ decide (t.stepIndex = some 1) = true) :=
  ⟨⟨by constructor <;> decide, next_of_stepped (by decide)⟩, ⟨by constructor <;> decide, next_of_stepped (by decide)⟩,
    ⟨by constructor <;> decide, next_of_stepped (by decide)⟩⟩
theorem witness_PortLanes : 0 < 16 ∧ 15 < 16 ∧ 31 < 32 := by decide

end Sys2Proof.Tests
end

/-! # Bytes, words and rotation

Proofs about bytes, words and rotation (spec/00_scope.md R9, R10; spec/40_block_compressor.md R101, R110, R114): the `toNat` and
bit-by-bit rules of `rotl32`, `le32` and `bytesLE32`, and the statements about them. -/

namespace Sys2Proof.Proofs

open Sys2Proof Sys2Proof.Machine

/-! ### Bytes and words (R10) -/

/-- R10: in numbers, a vector placed above one of `n` bits counts `2 ^ n` times; the two do not overlap, so their union is their sum. -/
theorem append_toNat {m n : Nat} (hi : BitVec m) (lo : BitVec n) : (hi ++ lo).toNat = 2 ^ n * hi.toNat + lo.toNat := by
  rw [BitVec.toNat_append, ← Nat.shiftLeft_add_eq_or_of_lt lo.isLt, Nat.shiftLeft_eq, Nat.mul_comm]

/-- R10: `LE32` in numbers. -/
theorem le32_toNat (b0 b1 b2 b3 : Byte) :
    (le32 b0 b1 b2 b3).toNat = b0.toNat + 256 * b1.toNat + 65536 * b2.toNat + 16777216 * b3.toNat := by
  simp only [le32, append_toNat]
  omega

/-- R10: `bytesLE32` undoes `LE32`. -/
theorem bytesLE32_le32 (b0 b1 b2 b3 : Byte) : bytesLE32 (le32 b0 b1 b2 b3) = [b0, b1, b2, b3] := by
  have byte_eq {start : Nat} {b : Byte} (h : (le32 b0 b1 b2 b3).toNat / 2 ^ start % 2 ^ 8 = b.toNat) :
      (le32 b0 b1 b2 b3).extractLsb' start 8 = b := by
    apply BitVec.eq_of_toNat_eq
    rw [BitVec.extractLsb'_toNat, Nat.shiftRight_eq_div_pow, h]
  rw [le32_toNat] at byte_eq
  rw [bytesLE32, byte_eq (b := b0) (by omega), byte_eq (b := b1) (by omega), byte_eq (b := b2) (by omega),
    byte_eq (b := b3) (by omega)]

/-- R10: byte `j` of a word is its bits `8j` to `8j + 7`. -/
theorem bytesLE32_getElem? (w : Word) (j : Nat) (h : j < 4) : (bytesLE32 w)[j]? = some (w.extractLsb' (8 * j) 8) := by
  interval_cases j <;> rfl

/-- R10: byte `j` of a count is its bits `8j` to `8j + 7`. -/
theorem bytesLE64_getElem? (c : Count) (j : Nat) (h : j < 8) : (bytesLE64 c)[j]? = some (c.extractLsb' (8 * j) 8) := by
  interval_cases j <;> rfl

/-- R101: word `i` of a block is `LE32` of its bytes `4i` to `4i + 3`. -/
theorem loadWords_getElem (block : Block) (i : Nat) (h : i < 16) :
    (loadWords block)[i] = le32 block[4 * i] block[4 * i + 1] block[4 * i + 2] block[4 * i + 3] := by
  simp [loadWords]

/-- R26, R52: the bytes of a serialised state, four to a word, the lowest state word first. -/
theorem serialise_getElem? (h : DigestState) (j : Nat) (hj : j < 4) :
    (serialise h)[j]? = (bytesLE32 h.h0)[j]? ∧ (serialise h)[4 + j]? = (bytesLE32 h.h1)[j]? ∧
    (serialise h)[8 + j]? = (bytesLE32 h.h2)[j]? ∧ (serialise h)[12 + j]? = (bytesLE32 h.h3)[j]? := by
  interval_cases j <;> exact ⟨rfl, rfl, rfl, rfl⟩

/-- Settles O8: each clause is the rule of its conversion. -/
theorem bytesAreLittleEndian : Obligations.BytesAreLittleEndian := by
  refine ⟨fun b0 b1 b2 b3 => ⟨le32_toNat b0 b1 b2 b3, bytesLE32_le32 b0 b1 b2 b3⟩, bytesLE32_getElem?, bytesLE64_getElem?,
    fun block i hi => ?_, fun h j hj => ?_⟩
  · rw [loadWords_getElem, le32_toNat]
  · simpa only [bytesLE32_getElem? _ j hj] using serialise_getElem? h j hj

/-! ### Rotation (R9, R114) -/

/-- R9: the bits that stay, moved up, and the bits that come round do not overlap, so their union is their sum. -/
theorem rotl32_toNat (v : Word) (s : Nat) (hs : s ≤ 31) :
    (rotl32 v s).toNat = v.toNat * 2 ^ s % 2 ^ 32 + v.toNat / 2 ^ (32 - s) := by
  have hpow : 2 ^ 32 = 2 ^ s * 2 ^ (32 - s) := by rw [← Nat.pow_add]; congr 1; omega
  have hhigh : v.toNat * 2 ^ s % 2 ^ 32 = 2 ^ s * (v.toNat % 2 ^ (32 - s)) := by
    rw [hpow, Nat.mul_comm, Nat.mul_mod_mul_left]
  have hlow : v.toNat / 2 ^ (32 - s) < 2 ^ s := Nat.div_lt_of_lt_mul (by rw [Nat.mul_comm, ← hpow]; exact v.isLt)
  rw [rotl32, BitVec.toNat_rotateLeft, Nat.mod_eq_of_lt (show s < 32 by omega), Nat.shiftLeft_eq,
    Nat.shiftRight_eq_div_pow, hhigh, Nat.two_pow_add_eq_or_of_lt hlow]

/-- R9: bit `i` goes to bit `(i + s) mod 32`: up by `s`, or round. -/
theorem rotl32_getLsbD (v : Word) (s i : Nat) (hs : s ≤ 31) (hi : i < 32) :
    (rotl32 v s).getLsbD ((i + s) % 32) = v.getLsbD i := by
  rw [rotl32, BitVec.getLsbD_rotateLeft, Nat.mod_eq_of_lt (show s < 32 by omega)]
  by_cases hround : i + s < 32
  · simp [Nat.mod_eq_of_lt hround, hround]
  · have hmod : (i + s) % 32 = i + s - 32 := by omega
    simp [hmod, show i + s - 32 < s by omega, show 32 - s + (i + s - 32) = i by omega]

/-- R114: a rotation by `s` and one by `32 - s` take every bit round once. -/
theorem rotl32_rotl32_cancel (v : Word) (s : Nat) (hs₁ : 1 ≤ s) (hs : s ≤ 31) : rotl32 (rotl32 v s) (32 - s) = v := by
  apply BitVec.eq_of_getLsbD_eq
  intro i hi
  have hback : ((i + s) % 32 + (32 - s)) % 32 = i := by omega
  calc (rotl32 (rotl32 v s) (32 - s)).getLsbD i
      = (rotl32 (rotl32 v s) (32 - s)).getLsbD (((i + s) % 32 + (32 - s)) % 32) := by rw [hback]
    _ = (rotl32 v s).getLsbD ((i + s) % 32) := rotl32_getLsbD _ _ _ (by omega) (Nat.mod_lt _ (by decide))
    _ = v.getLsbD i := rotl32_getLsbD v s i hs hi

/-- Settles O9: the three readings of `rotl32`. -/
theorem rotationLosesNoBit : Obligations.RotationLosesNoBit := fun v s hs₁ hs =>
  ⟨rotl32_toNat v s hs, fun i hi => rotl32_getLsbD v s i hs hi, rotl32_rotl32_cancel v s hs₁ hs⟩

/-- Settles O10: the wrapping sum is one reduction of the integer sum, and the rotation is read in numbers. -/
theorem stepValueInNumbers : Obligations.StepValueInNumbers := by
  intro f w x y z m k s _ hs sum
  have hsum : (w + f x y z + m + k).toNat = sum := by
    simp only [BitVec.toNat_add, Nat.mod_add_mod, sum]
  rw [stepValue, BitVec.toNat_add, rotl32_toNat _ s hs, hsum]

end Sys2Proof.Proofs

/-! # The context reaches no port

What no instruction but `FINAL` shows (spec/00_scope.md R16; spec/60_exceptions.md R259): the outputs read nothing of the
context and of the hidden working state, and the instructions write what the outputs read from nothing else. -/

namespace Sys2Proof.Proofs

open Sys2Proof Sys2Proof.Machine Sys2Proof.Laws

/-- R16: the outputs read nothing of what `forgetContext` forgets. -/
theorem outputs_forgetContext (s : State) : outputs (forgetContext s) = outputs s := rfl

/-- R16, R259: states that differ only in the context and the hidden working state have the same outputs. -/
theorem outputs_eq_of_sameButContext {s t : State} (h : SameButContext s t) : outputs s = outputs t := by
  rw [← outputs_forgetContext s, ← outputs_forgetContext t, h]

/-! ### The codec's commands, by the branch they take -/

/-- R231: `HEXENC` with a valid digest. -/
theorem execHexenc_valid {s : State} (h : s.digestValid = true) :
    execHexenc s = .next (endCommand { s with hex := toHex s.digest, hexValid := true }) := if_pos h

/-- R251: `HEXENC` without one. -/
theorem execHexenc_invalid {s : State} (h : s.digestValid = false) : execHexenc s = .next (raiseStateFault s) := by
  simp [execHexenc, h]

/-- R232: `HEXDEC` of a string `fromHex` decodes. -/
theorem execHexdec_some {s : State} {p : List Byte} {bytes : Vector Byte 16} (h : fromHex p = some bytes) :
    execHexdec p s = .next (endCommand { s with raw := bytes, rawValid := true }) := by
  simp [execHexdec, h]

/-- R232: `HEXDEC` of any other string. -/
theorem execHexdec_none {s : State} {p : List Byte} (h : fromHex p = none) :
    execHexdec p s = .next (endCommand { s with raw := Vector.replicate 16 0, rawValid := false }) := by
  simp [execHexdec, h]

/-! ### Running without the context -/

/-- R259: every instruction but `FINAL` does to a state what it does to the state with the context and the hidden working state
forgotten, as far as they are forgotten again. Each branch an instruction takes hangs on its operand, `phase` or `digestValid`. -/
theorem exec_forgetContext (i : Instr) (s : State) (hi : i ≠ .final) :
    ∃ s' u, exec i s = .next s' ∧ exec i (forgetContext s) = .next u ∧ SameButContext s' u := by
  cases i with
  | final => exact absurd rfl hi
  | update p =>
    by_cases hp : s.phase = .accum
    · exact ⟨_, _, execUpdate_accum p hp, execUpdate_accum p hp, rfl⟩
    · exact ⟨_, _, execUpdate_wrong_phase p hp, execUpdate_wrong_phase p hp, rfl⟩
  | hexenc =>
    cases hd : s.digestValid with
    | true => exact ⟨_, _, execHexenc_valid hd, execHexenc_valid hd, rfl⟩
    | false => exact ⟨_, _, execHexenc_invalid hd, execHexenc_invalid hd, rfl⟩
  | hexdec p =>
    cases hr : fromHex p with
    | some bytes => exact ⟨_, _, execHexdec_some hr, execHexdec_some hr, rfl⟩
    | none => exact ⟨_, _, execHexdec_none hr, execHexdec_none hr, rfl⟩
  | _ => exact ⟨_, _, rfl, rfl, rfl⟩

/-- Settles O43: both states run as the one state they become when the context is forgotten. -/
theorem contextReachesNoPort : Obligations.ContextReachesNoPort := by
  intro i s t hi hst
  obtain ⟨s', u, hs, hu, hsu⟩ := exec_forgetContext i s hi
  obtain ⟨t', u', ht, hu', htu⟩ := exec_forgetContext i t hi
  rw [← show forgetContext s = forgetContext t from hst, hu] at hu'
  cases hu'
  have hsame : SameButContext s' t' := hsu.trans htu.symm
  exact ⟨s', t', hs, ht, hsame, outputs_eq_of_sameButContext hsame⟩

end Sys2Proof.Proofs

/-! # What UPDATE stores

Where `absorb` stores in `BUF` and what it leaves (spec/10_state.md R22, R24; spec/41_digest_engine.md R202, R203). -/

namespace Sys2Proof.Proofs

open Sys2Proof Sys2Proof.Machine Sys2Proof.Laws

/-- R24: dividing by 8 and reducing modulo 64 is reading six bits from bit 3. -/
theorem fill_eq_extractLsb' (cnt : Count) : fill cnt = (cnt.extractLsb' 3 6).toNat := by
  rw [BitVec.extractLsb'_toNat, Nat.shiftRight_eq_div_pow]
  rfl

/-- Settles O28: the model's own rules of the fill, with its bits. -/
theorem fillIsCountBits : Obligations.FillIsCountBits := fun cnt =>
  ⟨rfl, fill_eq_extractLsb' cnt, fill_lt cnt, fill_add_8 cnt⟩

/-- R202: a byte is stored at the fill. -/
theorem absorbByte_buf_getElem_fill (c : Context) (v : Byte) : (absorbByte c v).buf[fill c.cnt]'(fill_lt c.cnt) = v := by
  simp [absorbByte]

/-- R202: and nowhere else. -/
theorem absorbByte_buf_getElem_ne (c : Context) (v : Byte) (j : Nat) (hj : j < 64) (hne : fill c.cnt ≠ j) :
    (absorbByte c v).buf[j] = c.buf[j] := by
  simp [absorbByte, hne]

/-- R202: byte `p` behind the next one goes where byte `p + 1` goes from here. -/
theorem fill_absorbByte_add (c : Context) (v : Byte) (p : Nat) :
    (fill (absorbByte c v).cnt + p) % 64 = (fill c.cnt + (p + 1)) % 64 := by
  rw [absorbByte_cnt, fill_add_8]
  omega

/-- R202: a byte of `BUF` no absorbed byte goes to is as before. -/
theorem absorb_buf_getElem_of_untouched (c : Context) (bytes : List Byte) (j : Nat) (hj : j < 64)
    (h : ∀ p < bytes.length, (fill c.cnt + p) % 64 ≠ j) : (absorb c bytes).buf[j] = c.buf[j] := by
  induction bytes generalizing c with
  | nil => rfl
  | cons v bytes ih =>
    have hhead : fill c.cnt ≠ j := by
      simpa [Nat.mod_eq_of_lt (fill_lt c.cnt)] using h 0 (by simp)
    have htail : ∀ p < bytes.length, (fill (absorbByte c v).cnt + p) % 64 ≠ j := fun p hp => by
      rw [fill_absorbByte_add]
      exact h (p + 1) (by simpa using hp)
    rw [absorb_cons, ih _ htail]
    exact absorbByte_buf_getElem_ne c v j hj hhead

/-- R202: each of the last 64 bytes absorbed stands where it was stored: the at most 63 bytes behind it go elsewhere. -/
theorem absorb_buf_getElem?_of_last (c : Context) (bytes : List Byte) (p : Nat) (hp : p < bytes.length)
    (hlast : bytes.length ≤ p + 64) : (absorb c bytes).buf[(fill c.cnt + p) % 64]? = some bytes[p] := by
  induction bytes generalizing c p with
  | nil => simp at hp
  | cons v bytes ih =>
    simp only [List.length_cons] at hp hlast
    have hlt := fill_lt c.cnt
    cases p with
    | zero =>
      have huntouched : ∀ q < bytes.length, (fill (absorbByte c v).cnt + q) % 64 ≠ fill c.cnt := fun q hq => by
        rw [fill_absorbByte_add]
        omega
      rw [Nat.add_zero, Nat.mod_eq_of_lt hlt, Vector.getElem?_eq_getElem hlt, absorb_cons,
        absorb_buf_getElem_of_untouched _ _ _ hlt huntouched, absorbByte_buf_getElem_fill]
      rfl
    | succ p =>
      rw [← fill_absorbByte_add c v]
      exact ih _ p (by omega) (by omega)

/-- Settles O23: `UPDATE` in ACCUM absorbs its payload, byte after byte from the fill on. -/
theorem updateStoresOnlyItsBytes : Obligations.UpdateStoresOnlyItsBytes := fun payload s hphase =>
  ⟨absorb s.ctx payload, execUpdate_accum payload hphase, absorb_buf_getElem?_of_last s.ctx payload,
    absorb_buf_getElem_of_untouched s.ctx payload⟩

end Sys2Proof.Proofs

/-! # What the instructions write and read

Which instruction writes which register, and that none reads the hidden working state (spec/10_state.md R21 to R34). -/

namespace Sys2Proof.Proofs

open Sys2Proof Sys2Proof.Machine Sys2Proof.Laws

/-- Settles O40: each effect an instruction can have names the registers it writes. -/
theorem onlyTheListedCommandsWrite : Obligations.OnlyTheListedCommandsWrite := by
  intro i s t h
  cases effect_of_next h with
  | internal q _ => simp
  | stateFault hcause => obtain ⟨rfl | ⟨p, rfl⟩, -⟩ | ⟨rfl, -⟩ := hcause <;> simp
  | init hi => simp [hi]
  | update p hi _ => simp [hi]
  | final hi _ => simp [hi]
  | hexenc hi _ => simp [hi]
  | hexdecGood p r hi _ => simp [hi]
  | hexdecBad p hi _ => simp [hi]
  | hexcmp p hi => simp [hi]

/-- R33: every host command does to a state what it does to the state with the hidden working state forgotten, as far as it is
forgotten again. Each branch a command takes hangs on its operand, `phase` or `digestValid`, and `FINAL` latches the count before it
reads the latch. -/
theorem exec_forgetHidden (i : Instr) (s : State) (hi : isCommand i = true) :
    ∃ s' u, exec i s = .next s' ∧ exec i (forgetHidden s) = .next u ∧ SameButHidden s' u := by
  cases i with
  | init | hexcmp => exact ⟨_, _, rfl, rfl, rfl⟩
  | update p =>
    by_cases hp : s.phase = .accum
    · exact ⟨_, _, execUpdate_accum p hp, execUpdate_accum p hp, rfl⟩
    · exact ⟨_, _, execUpdate_wrong_phase p hp, execUpdate_wrong_phase p hp, rfl⟩
  | final =>
    by_cases hp : s.phase = .accum
    · exact ⟨_, _, execFinal_accum hp, execFinal_accum hp, rfl⟩
    · exact ⟨_, _, execFinal_wrong_phase hp, execFinal_wrong_phase hp, rfl⟩
  | hexenc =>
    cases hd : s.digestValid with
    | true => exact ⟨_, _, execHexenc_valid hd, execHexenc_valid hd, rfl⟩
    | false => exact ⟨_, _, execHexenc_invalid hd, execHexenc_invalid hd, rfl⟩
  | hexdec p =>
    cases hr : fromHex p with
    | some bytes => exact ⟨_, _, execHexdec_some hr, execHexdec_some hr, rfl⟩
    | none => exact ⟨_, _, execHexdec_none hr, execHexdec_none hr, rfl⟩
  | _ => cases hi

/-- Settles O42: both states run as the one state they become when the hidden working state is forgotten. -/
theorem hiddenStateIsUnread : Obligations.HiddenStateIsUnread := by
  intro i s t hi hst
  obtain ⟨s', u, hs, hu, hsu⟩ := exec_forgetHidden i s hi
  obtain ⟨t', u', ht, hu', htu⟩ := exec_forgetHidden i t hi
  rw [← show forgetHidden s = forgetHidden t from hst, hu] at hu'
  cases hu'
  exact ⟨s', t', hs, ht, hsu.trans htu.symm⟩

end Sys2Proof.Proofs

/-! # The invariants of a command boundary

What holds at reset and every step keeps (spec/10_state.md R30, R31, R35, R36). -/

namespace Sys2Proof.Proofs

open Sys2Proof Sys2Proof.Machine Sys2Proof.Laws

variable {i : Instr} {s t : State}

/-! ### What an effect keeps -/

/-- R110: the effect of a step operation is a write of the working variables. -/
theorem effect_internal (he : Effect i s t) (hi : isCommand i = false) : ∃ q, t = { s with work := q } := by
  cases he with
  | internal q _ => exact ⟨q, rfl⟩
  | stateFault hcause => obtain ⟨rfl | ⟨p, rfl⟩, -⟩ | ⟨rfl, -⟩ := hcause <;> cases hi
  | init h | update _ h | final h | hexenc h | hexdecGood _ _ h | hexdecBad _ h | hexcmp _ h => subst h; cases hi

/-- R251, R257: no effect clears `ERR_STATE`. -/
theorem effect_keeps_errState (he : Effect i s t) (h : s.errState = true) : t.errState = true := by
  cases he with
  | stateFault _ => rfl
  | _ => simpa using h

/-- Settles O49: no effect clears `ERR_STATE`, and a core with `ERR_ILLEGAL` set has no step. -/
theorem faultFlagsAreSticky : Obligations.FaultFlagsAreSticky := by
  intro s t hstep
  obtain ⟨hillegal, hcases⟩ := step_cases hstep
  refine ⟨fun h => ?_, fun h => by simp [hillegal] at h⟩
  obtain ⟨j, u, -, hu, rfl⟩ | ⟨i, rest, -, -, ht⟩ | ⟨op, rest, -, -, rfl⟩ | ⟨-, -, rfl⟩ := hcases
  · simpa using effect_keeps_errState (effect_of_next hu) h
  · exact effect_keeps_errState (effect_of_next ht) h
  · exact h
  · exact h

/-! ### The invariant under each update -/

/-- R35: the invariant reads neither the fault flags, nor the hidden working state, nor the input. -/
theorem boundaryInvariant_of_unread {e e' : Bool} {q : Work} {l : Count} {bytes : List Byte} {n : Nat}
    (h : BoundaryInvariant s) :
    BoundaryInvariant { s with
      errState := e, errIllegal := e', work := q, latch := l, input := bytes, boundaryCount := n } :=
  { h with }

/-- R202: `absorb` keeps the count a multiple of 8. -/
theorem absorb_cnt_mod_8 (c : Context) (bytes : List Byte) (h : c.cnt.toNat % 8 = 0) :
    (absorb c bytes).cnt.toNat % 8 = 0 := by
  rw [absorb_cnt_toNat]
  omega

/-- R201: `INIT` leads to ACCUM, which asks nothing of the context but the count. -/
theorem boundaryInvariant_init (h : BoundaryInvariant s) :
    BoundaryInvariant { s with ctx := { s.ctx with h := initialDigestState, cnt := 0 }, phase := .accum } :=
  { h with
    cntMultipleOf8 := rfl
    contextZeroOutsideAccum := fun hp => absurd rfl hp
    finalizedHasDigest := nofun
    freshHasNoResult := nofun
    compressOnlyInAccum := fun _ => rfl }

/-- R203: `UPDATE` in ACCUM changes the context only. -/
theorem boundaryInvariant_absorb (p : List Byte) (hphase : s.phase = .accum) (h : BoundaryInvariant s) :
    BoundaryInvariant { s with ctx := absorb s.ctx p } :=
  { h with
    cntMultipleOf8 := absorb_cnt_mod_8 s.ctx p h.cntMultipleOf8
    contextZeroOutsideAccum := fun hp => absurd hphase hp }

/-- R205, R206: `FINAL` leaves a valid digest, no rendering of it, and a wiped context. -/
theorem boundaryInvariant_finalise (hidx : s.stepIndex = none) (h : BoundaryInvariant s) :
    BoundaryInvariant (finalise s) where
  cntMultipleOf8 := by rw [finalise_ctx]; rfl
  contextZeroOutsideAccum _ := finalise_ctx s
  finalizedHasDigest _ := finalise_digestValid s
  freshHasNoResult hfresh := by simp at hfresh
  hexIsOfDigest hhex := by simp at hhex
  matchNeedsHex hmatch := by simp at hmatch
  rawZeroUnlessValid := by simpa using h.rawZeroUnlessValid
  compressOnlyInAccum hne := by simp [hidx] at hne

/-- R231: `HEXENC` renders the valid digest; the phase is not FRESH, since there is one. -/
theorem boundaryInvariant_hexenc {chars : Vector Byte 32} (hchars : chars = toHex s.digest)
    (hdigest : s.digestValid = true) (h : BoundaryInvariant s) :
    BoundaryInvariant { s with hex := chars, hexValid := true } :=
  { h with
    freshHasNoResult := fun hfresh => by
      obtain ⟨hno, -, -⟩ := h.freshHasNoResult hfresh
      simp [hno] at hdigest
    hexIsOfDigest := fun _ => ⟨hdigest, hchars⟩
    matchNeedsHex := fun _ => rfl }

/-- R232: `HEXDEC` writes the raw register and its flag together. -/
theorem boundaryInvariant_hexdec {r : Vector Byte 16} {valid : Bool} (hraw : valid = false → r = Vector.replicate 16 0)
    (h : BoundaryInvariant s) : BoundaryInvariant { s with raw := r, rawValid := valid } :=
  { h with rawZeroUnlessValid := hraw }

/-- R233: a comparison answers 1 only while the hex register is valid. -/
theorem hexValid_of_compareFlag {p : List Byte} (h : compareFlag s p = true) : s.hexValid = true := by
  simp only [compareFlag, Bool.and_eq_true] at h
  exact h.1.1

/-- R233: `HEXCMP` sets MATCH only while the hex register is valid, which it is not in FRESH. -/
theorem boundaryInvariant_hexcmp (p : List Byte) (h : BoundaryInvariant s) :
    BoundaryInvariant { s with matched := compareFlag s p } :=
  { h with
    freshHasNoResult := fun hfresh => by
      obtain ⟨hdigest, hhex, -⟩ := h.freshHasNoResult hfresh
      exact ⟨hdigest, hhex, by simp [compareFlag, hhex]⟩
    matchNeedsHex := hexValid_of_compareFlag }

/-- R35: at a command boundary every instruction keeps the invariant. -/
theorem boundaryInvariant_of_effect (hidx : s.stepIndex = none) (h : BoundaryInvariant s) (he : Effect i s t) :
    BoundaryInvariant t := by
  cases he with
  | internal q _ => exact boundaryInvariant_of_unread h
  | stateFault _ => exact boundaryInvariant_of_unread h
  | init _ => exact boundaryInvariant_of_unread (boundaryInvariant_init h)
  | update p _ hphase => exact boundaryInvariant_of_unread (boundaryInvariant_absorb p hphase h)
  | final _ _ => exact boundaryInvariant_of_unread (boundaryInvariant_finalise hidx h)
  | hexenc _ hdigest => exact boundaryInvariant_of_unread (boundaryInvariant_hexenc rfl hdigest h)
  | hexdecGood p r _ _ => exact boundaryInvariant_of_unread (boundaryInvariant_hexdec nofun h)
  | hexdecBad p _ _ => exact boundaryInvariant_of_unread (boundaryInvariant_hexdec (fun _ => rfl) h)
  | hexcmp p _ => exact boundaryInvariant_of_unread (boundaryInvariant_hexcmp p h)

/-- R112, R113: in ACCUM the sequencing of a `compress` keeps the invariant: it changes `H` and the index. -/
theorem boundaryInvariant_advanceStep (j : BitVec 6) (hphase : s.phase = .accum) (h : BoundaryInvariant s) :
    BoundaryInvariant (advanceStep j s) := by
  by_cases hj : j = 63
  · subst hj
    rw [advanceStep_last]
    exact { h with
      contextZeroOutsideAccum := fun hp => absurd hphase hp
      compressOnlyInAccum := fun _ => hphase }
  · rw [advanceStep_of_ne hj]
    exact { h with compressOnlyInAccum := fun _ => hphase }

/-! ### Reset and step -/

/-- Settles O50: at reset the context is zero and no flag is set. -/
theorem invariantsHoldAtReset : Obligations.InvariantsHoldAtReset where
  cntMultipleOf8 := rfl
  contextZeroOutsideAccum _ := rfl
  finalizedHasDigest := nofun
  freshHasNoResult _ := ⟨rfl, rfl, rfl⟩
  hexIsOfDigest := nofun
  matchNeedsHex := nofun
  rawZeroUnlessValid _ := rfl
  compressOnlyInAccum hne := absurd rfl hne

/-- Settles O51: a step is an internal step, which runs in ACCUM, a command at a boundary, an illegal opcode, or idle. -/
theorem everyStepKeepsInvariants : Obligations.EveryStepKeepsInvariants := by
  intro s t h hstep
  have hconsumed (rest : List Byte) : BoundaryInvariant (consume s rest) := boundaryInvariant_of_unread h
  obtain ⟨-, ⟨j, u, hidx, hu, rfl⟩ | ⟨i, rest, hidx, -, ht⟩ | ⟨op, rest, -, -, rfl⟩ | ⟨-, -, rfl⟩⟩ := step_cases hstep
  · obtain ⟨q, rfl⟩ := effect_internal (effect_of_next hu) (isCommand_decodeStep j)
    have hphase : s.phase = .accum := h.compressOnlyInAccum (by simp [hidx])
    exact boundaryInvariant_advanceStep j hphase (boundaryInvariant_of_unread h)
  · exact boundaryInvariant_of_effect (s := consume s rest) hidx (hconsumed rest) (effect_of_next ht)
  · exact boundaryInvariant_of_unread (hconsumed rest)
  · exact h

/-- Settles O52: the fields of the reset state, one by one. -/
theorem resetStateIsZero : Obligations.ResetStateIsZero :=
  ⟨rfl, rfl, rfl, rfl, rfl, rfl, rfl, rfl, rfl, rfl, rfl, rfl, rfl⟩

/-! ### STATUS -/

/-- R31: the two low bits of STATUS are the phase's code. -/
theorem status_extractLsb'_phase (s : State) : (status s).extractLsb' 0 2 = s.phase.code := by
  rw [status, BitVec.extractLsb'_append_eq_right]

/-- R31: bits 2 to 7 of STATUS are the flags in their order. -/
theorem status_getLsbD_flags (s : State) :
    (status s).getLsbD 2 = s.digestValid ∧ (status s).getLsbD 3 = s.hexValid ∧ (status s).getLsbD 4 = s.rawValid ∧
    (status s).getLsbD 5 = s.matched ∧ (status s).getLsbD 6 = s.errState ∧ (status s).getLsbD 7 = s.errIllegal := by
  simp only [status, BitVec.getLsbD_append]
  simp

/-- Settles O54: the code of each phase, and each flag by its place in the packing. -/
theorem statusPacksTheFlags : Obligations.StatusPacksTheFlags := by
  refine ⟨fun s => ⟨?_, status_getLsbD_flags s⟩, rfl⟩
  rw [status_extractLsb'_phase]
  cases s.phase <;> rfl

end Sys2Proof.Proofs

/-! # Commands arriving in parts

The command port at a command boundary (spec/20_memory.md R58; spec/30_encoding.md R70 to R77): what a whole command and a proper
part of one decode to, and the step each leads to. -/

namespace Sys2Proof.Proofs

open Sys2Proof Sys2Proof.Machine Sys2Proof.Laws

/-! ### Header and payload -/

/-- R70, R75: `header` holds the bytes of a command in front of its payload: with all of them there the decoder reads a payload of
`len` bytes for `op`, with a proper non-empty part of them it waits inside the command. -/
structure IsHeader (header : List Byte) (op : Opcode) (len : Nat) : Prop where
  decode_append : ∀ bytes, decodeCommand (header ++ bytes) = decodePayload op len bytes
  take_waits : ∀ n, 0 < n → n < header.length → ∃ position ≠ .opcode, decodeCommand (header.take n) = .waiting position

/-- R71: the header of format N is the opcode. -/
theorem isHeader_N {code : Byte} {op : Opcode} (hdecode : ∀ bytes, decodeCommand (code :: bytes) = .instr (op.instr []) bytes) :
    IsHeader [code] op 0 where
  decode_append bytes := (hdecode bytes).trans (decodePayload_append op [] bytes).symm
  take_waits n hpos hn := by simp at hn; omega

/-- R72: the header of format U is the opcode and two length bytes. -/
theorem isHeader_U {p : List Byte} (hlen : p.length ≤ 65535) : IsHeader (0x02 :: encodeLengthU p) .update p.length where
  decode_append bytes := (decodeCommand_update _ _ bytes).trans (by rw [lengthU_encode _ hlen])
  take_waits n hpos hn := by
    have hn3 : n < 3 := hn
    interval_cases n
    · exact ⟨.lengthLow .update, nofun, rfl⟩
    · exact ⟨.lengthHigh .update _, nofun, rfl⟩

/-- R73: the header of format S is the opcode and one length byte. -/
theorem isHeader_S {code : Byte} {op : Opcode} {p : List Byte} (hlen : p.length ≤ 255)
    (hdecode : ∀ len bytes, decodeCommand (code :: len :: bytes) = decodePayload op (lengthS len) bytes)
    (hwait : decodeCommand [code] = .waiting (.lengthByte op)) : IsHeader (code :: encodeLengthS p) op p.length where
  decode_append bytes := (hdecode _ bytes).trans (by rw [lengthS_encode _ hlen])
  take_waits n hpos hn := by
    obtain rfl : n = 1 := by simp [encodeLengthS] at hn; omega
    exact ⟨.lengthByte op, nofun, hwait⟩

variable {i : Instr} {bs : List Byte}

/-- R70 to R75: the bytes of a well-formed command are a header and the payload whose length it says. -/
theorem encode_eq_header_append (hwf : WellFormed i) (henc : encode i = .bytes bs) :
    ∃ header op payload, bs = header ++ payload ∧ i = op.instr payload ∧ IsHeader header op payload.length := by
  cases i with
  | init => cases henc; exact ⟨[0x01], .init, [], rfl, rfl, isHeader_N decodeCommand_init⟩
  | final => cases henc; exact ⟨[0x03], .final, [], rfl, rfl, isHeader_N decodeCommand_final⟩
  | hexenc => cases henc; exact ⟨[0x10], .hexenc, [], rfl, rfl, isHeader_N decodeCommand_hexenc⟩
  | update p => cases henc; exact ⟨_, .update, p, rfl, rfl, isHeader_U ((wellFormed_update p).1 hwf)⟩
  | hexdec p =>
    cases henc
    exact ⟨_, .hexdec, p, rfl, rfl, isHeader_S ((wellFormed_hexdec p).1 hwf) decodeCommand_hexdec rfl⟩
  | hexcmp p =>
    cases henc
    exact ⟨_, .hexcmp, p, rfl, rfl, isHeader_S ((wellFormed_hexcmp p).1 hwf) decodeCommand_hexcmp rfl⟩
  | _ => cases henc

/-! ### Whole commands and proper parts of them -/

/-- R70: the bytes of a well-formed command decode to it, whatever stands behind them. -/
theorem decodeCommand_encode_append (hwf : WellFormed i) (henc : encode i = .bytes bs) (rest : List Byte) :
    decodeCommand (bs ++ rest) = .instr i rest := by
  obtain ⟨header, op, payload, rfl, rfl, hheader⟩ := encode_eq_header_append hwf henc
  rw [List.append_assoc, hheader.decode_append, decodePayload_append]

/-- R77: on a proper non-empty part of a well-formed command the decoder waits inside it, for its header or for its payload. -/
theorem decodeCommand_take_encode (hwf : WellFormed i) (henc : encode i = .bytes bs) {n : Nat} (hpos : 0 < n)
    (hn : n < bs.length) : ∃ position ≠ .opcode, decodeCommand (bs.take n) = .waiting position := by
  obtain ⟨header, op, payload, rfl, -, hheader⟩ := encode_eq_header_append hwf henc
  by_cases hpart : n < header.length
  · rw [List.take_append_of_le_length (by omega)]
    exact hheader.take_waits n hpos hpart
  · have hshort : (payload.take (n - header.length)).length < payload.length := by
      simp at hn ⊢
      omega
    rw [List.take_append, List.take_of_length_le (by omega), hheader.decode_append, decodePayload_short _ _ _ hshort]
    exact ⟨.payload _ _ _, nofun, rfl⟩

/-! ### The steps -/

/-- Settles O44: the step's own rule at a boundary. -/
theorem stepRunsDecodedCommand : Obligations.StepRunsDecodedCommand := fun _ _ _ hillegal hidx hdecode =>
  step_command hillegal hidx hdecode

/-- R55: bytes transferred to a core that is not halted stand behind those already there. -/
theorem transfer_of_not_halted {s : State} (h : s.errIllegal = false) (bytes : List Byte) :
    transfer s bytes = consume s (s.input ++ bytes) := by
  simp [transfer, h, consume]

/-- Settles O47: the part of the command waits; with its rest behind it the command is whole and is the whole input. -/
theorem truncatedCommandWaitsForItsRest : Obligations.TruncatedCommandWaitsForItsRest := by
  intro s i bs n hwf henc hpos hn hillegal hidx hinput
  constructor
  · obtain ⟨position, hinside, hwait⟩ := decodeCommand_take_encode hwf henc hpos hn
    exact step_truncated hillegal hidx (hinput ▸ hwait) hinside
  · have hwhole : decodeCommand bs = .instr i [] := by simpa using decodeCommand_encode_append hwf henc []
    rw [transfer_of_not_halted hillegal, hinput, List.take_append_drop]
    exact step_command (s := consume s bs) hillegal hidx hwhole

end Sys2Proof.Proofs

/-! # Byte lanes of the output ports

Which bits of a port show which byte of its array (spec/20_memory.md R56). -/

namespace Sys2Proof.Proofs

open Sys2Proof Sys2Proof.Machine

/-- R56: bit `k` of lane `i` is bit `k` of byte `i`: each byte in front moves the lanes behind it up by 8 bits. -/
theorem lanes_testBit (bytes : List Byte) (i k : Nat) (hi : i < bytes.length) (hk : k < 8) :
    (lanes bytes).testBit (8 * i + k) = bytes[i].getLsbD k := by
  induction bytes generalizing i with
  | nil => simp at hi
  | cons b bytes ih =>
    have hcons : lanes (b :: bytes) = 2 ^ 8 * lanes bytes + b.toNat := Nat.add_comm _ _
    rw [hcons, Nat.testBit_two_pow_mul_add _ b.isLt]
    cases i with
    | zero => simp [hk, BitVec.testBit_toNat]
    | succ i =>
      have hi' : i < bytes.length := by simpa using hi
      rw [if_neg (by omega), show 8 * (i + 1) + k - 8 = 8 * i + k by omega]
      exact ih i hi'

/-- R56: a port as wide as its array shows byte `i` on bits `8i` to `8i + 7`. -/
theorem lanes_extractLsb' {n : Nat} (bytes : Vector Byte n) (i : Nat) (hi : i < n) :
    (BitVec.ofNat (8 * n) (lanes bytes.toList)).extractLsb' (8 * i) 8 = bytes[i] := by
  apply BitVec.eq_of_getLsbD_eq
  intro k hk
  have hwide : 8 * i + k < 8 * n := by omega
  rw [BitVec.getLsbD_extractLsb', BitVec.getLsbD_ofNat, lanes_testBit _ i k (by simpa using hi) hk]
  simp [hk, hwide]

/-- Settles O55: each port is the lanes of its array. -/
theorem portLanesFollowIndices : Obligations.PortLanesFollowIndices := fun s =>
  ⟨rfl, lanes_extractLsb' s.digest, lanes_extractLsb' s.hex, lanes_extractLsb' s.raw⟩

end Sys2Proof.Proofs

/-! # Decoder and encoder

The encodings of the two operand spaces (spec/30_encoding.md R70 to R78): each direction of the round trip, where the decoder waits,
and which opcode bytes it refuses. -/

namespace Sys2Proof.Proofs

open Sys2Proof Sys2Proof.Machine Sys2Proof.Laws

variable {i : Instr} {bs rest : List Byte}

/-! ### From an instruction to its code and back -/

/-- R78: the index an instruction is encoded as selects it. -/
theorem decodeStep_of_encode {t : BitVec 6} (henc : encode i = .selector t) : decodeStep t = i := by
  cases i <;> cases henc <;> rfl

/-- Settles O1: the bytes of a command decode to it in front of any others, and the index of a step selects it. -/
theorem decodeOfEncodeReturnsInstruction : Obligations.DecodeOfEncodeReturnsInstruction := fun _ hwf =>
  ⟨fun _ henc rest => decodeCommand_encode_append hwf henc rest, fun _ henc => by rw [decode, decodeStep_of_encode henc]⟩

/-! ### From a code to its instruction and back -/

/-- R76: the decoder gives an instruction only for one of the six opcode bytes. -/
theorem opcode_of_decodeCommand_instr {op : Byte} {bytes : List Byte} (h : decodeCommand (op :: bytes) = .instr i rest) :
    op = 0x01 ∨ op = 0x02 ∨ op = 0x03 ∨ op = 0x10 ∨ op = 0x11 ∨ op = 0x12 := by
  refine (opcodeRow_cases op).resolve_right fun hnone => ?_
  rw [decodeCommand_of_no_row _ _ hnone] at h
  cases h

/-- R72, R75: a decoded command of format U is well formed and its bytes are its encoding. -/
theorem payload_of_decodeCommand_update {bytes : List Byte} (h : decodeCommand (0x02 :: bytes) = .instr i rest) :
    ∃ p, i = .update p ∧ p.length ≤ 65535 ∧ 0x02 :: bytes = (0x02 :: encodeLengthU p ++ p) ++ rest := by
  match bytes, h with
  | low :: high :: bytes, h =>
    obtain ⟨p, rfl, hlen, rfl⟩ := decodePayload_instr _ _ _ _ _ h
    obtain ⟨hlow, hhigh⟩ := encode_lengthU low high
    exact ⟨p, rfl, hlen ▸ lengthU_le low high, by simp [encodeLengthU, hlen, hlow, hhigh]⟩

/-- R73, R75: a decoded command of format S is well formed and its bytes are its encoding. -/
theorem payload_of_decodeCommand_S {code : Byte} {op : Opcode} {bytes : List Byte}
    (hdecode : ∀ len bytes, decodeCommand (code :: len :: bytes) = decodePayload op (lengthS len) bytes)
    (hwait : decodeCommand [code] = .waiting (.lengthByte op)) (h : decodeCommand (code :: bytes) = .instr i rest) :
    ∃ p, i = op.instr p ∧ p.length ≤ 255 ∧ code :: bytes = (code :: encodeLengthS p ++ p) ++ rest := by
  cases bytes with
  | nil => rw [hwait] at h; cases h
  | cons len bytes =>
    obtain ⟨p, rfl, hlen, rfl⟩ := decodePayload_instr _ _ _ _ _ (hdecode len bytes ▸ h)
    exact ⟨p, rfl, hlen ▸ lengthS_le len, by simp [encodeLengthS, hlen, encode_lengthS]⟩

/-- R70 to R76: a decoded command is well formed and the bytes are its encoding in front of the rest. -/
theorem encode_of_decodeCommand (h : decodeCommand bs = .instr i rest) :
    WellFormed i ∧ ∃ e, encode i = .bytes e ∧ bs = e ++ rest := by
  cases bs with
  | nil => cases h
  | cons op bytes =>
    obtain rfl | rfl | rfl | rfl | rfl | rfl := opcode_of_decodeCommand_instr h
    · cases h; exact ⟨rfl, _, rfl, rfl⟩
    · obtain ⟨p, rfl, hlen, hbytes⟩ := payload_of_decodeCommand_update h
      exact ⟨(wellFormed_update p).2 hlen, _, rfl, hbytes⟩
    · cases h; exact ⟨rfl, _, rfl, rfl⟩
    · cases h; exact ⟨rfl, _, rfl, rfl⟩
    · obtain ⟨p, rfl, hlen, hbytes⟩ := payload_of_decodeCommand_S decodeCommand_hexdec rfl h
      exact ⟨(wellFormed_hexdec p).2 hlen, _, rfl, hbytes⟩
    · obtain ⟨p, rfl, hlen, hbytes⟩ := payload_of_decodeCommand_S decodeCommand_hexcmp rfl h
      exact ⟨(wellFormed_hexcmp p).2 hlen, _, rfl, hbytes⟩

/-- R78: the operation an index selects is well formed and encoded as that index. -/
theorem encode_decodeStep (t : BitVec 6) : WellFormed (decodeStep t) ∧ encode (decodeStep t) = .selector t := by
  revert t; decide

/-- Settles O2: the inversion of the command decoder, and the table of step operations. -/
theorem encodeOfDecodeReturnsCode : Obligations.EncodeOfDecodeReturnsCode :=
  ⟨fun _ _ _ h => encode_of_decodeCommand h, encode_decodeStep⟩

/-! ### Waits and refusals -/

/-- Settles O3: with no byte the decoder waits for an opcode, with a part of a command inside it. -/
theorem properPrefixOfCommandWaits : Obligations.ProperPrefixOfCommandWaits := by
  intro i bs n hwf henc hn
  by_cases hzero : n = 0
  · subst hzero
    exact ⟨.opcode, rfl, by simp⟩
  · obtain ⟨position, hinside, hwait⟩ := decodeCommand_take_encode hwf henc (Nat.pos_of_ne_zero hzero) hn
    exact ⟨position, hwait, by simp [hinside, hzero]⟩

/-- R76: with one of the six opcodes at its head a byte sequence is never refused: it decodes or waits. -/
theorem decodeCommand_ne_illegal {op op' : Byte} (h : opcodeRow op ≠ none) (bytes rest' : List Byte) :
    decodeCommand (op :: bytes) ≠ .illegal op' rest' := by
  intro hillegal
  cases hrow : opcodeRow op with
  | none => exact h hrow
  | some row =>
    simp only [decodeCommand, hrow, decodePayload] at hillegal
    (repeat' split at hillegal) <;> cases hillegal

/-- Settles O4: a byte has a row of the opcode map exactly when it is one of the six. -/
theorem undefinedOpcodesAreIllegal : Obligations.UndefinedOpcodesAreIllegal := by
  have hdefined : ∀ op ∈ ([0x01, 0x02, 0x03, 0x10, 0x11, 0x12] : List Byte), opcodeRow op ≠ none := by decide
  refine ⟨fun op rest h => decodeCommand_of_no_row op rest (opcodeRow_none_of_undefined op h),
    fun op rest h op' rest' => decodeCommand_ne_illegal (hdefined op h) rest rest', ?_⟩
  decide +kernel

/-- Settles O5: the codes of the samples, decoded. -/
theorem sampleWordsDecode : Obligations.SampleWordsDecode := by
  unfold Obligations.SampleWordsDecode
  decide

/-! ### A table word at the fetch -/

/-- Log entry 4: a table word that decodes stands for the bytes of a command or for the index of a step. -/
theorem tableCode_of_decodeTableWord {nbits w : Nat} (h : decodeTableWord nbits w = some i) :
    (∃ e, tableCode nbits w = .bytes e ∧ WellFormed i ∧ encode i = .bytes e) ∨
      ∃ t, tableCode nbits w = .selector t ∧ decodeStep t = i := by
  have hdecode : decode (tableCode nbits w) = .instr i [] := by
    unfold decodeTableWord at h
    split at h
    next j hj => cases h; exact hj
    all_goals cases h
  cases hcode : tableCode nbits w with
  | bytes bs =>
    rw [hcode] at hdecode
    obtain ⟨hwf, e, henc, rfl⟩ := encode_of_decodeCommand hdecode
    exact .inl ⟨e, by simp, hwf, henc⟩
  | selector t =>
    rw [hcode] at hdecode
    exact .inr ⟨t, rfl, by simpa [decode] using hdecode⟩

/-- R70: command bytes placed at the fetch are the next command. -/
theorem step_placeCode_bytes {e : List Byte} (s : State) (hwf : WellFormed i) (henc : encode i = .bytes e) :
    step (placeCode s (.bytes e)) = exec i { s with stepIndex := none, errIllegal := false } :=
  step_command rfl rfl (decodeCommand_encode_append hwf henc s.input)

/-- R78: a step index placed at the fetch selects the next operation. -/
theorem step_placeCode_selector (s : State) (t : BitVec 6) : step (placeCode s (.selector t)) =
    mapNext (advanceStep t) (exec (decodeStep t) { s with stepIndex := some t, errIllegal := false }) :=
  step_internal rfl rfl

/-- Settles O6: the code the word stands for, command bytes or a step index, is what the next step fetches. -/
theorem fetchWordRunsTableInstruction : Obligations.FetchWordRunsTableInstruction := by
  intro s nbits w i h
  obtain ⟨e, hcode, hwf, henc⟩ | ⟨t, hcode, rfl⟩ := tableCode_of_decodeTableWord h
  · rw [State.withFetchWord, hcode]
    exact ⟨fun _ => step_placeCode_bytes s hwf henc, fun hstep => by simp [isCommand, henc] at hstep⟩
  · rw [State.withFetchWord, hcode]
    exact ⟨fun hcommand => by simp [isCommand_decodeStep] at hcommand, fun _ => ⟨t, rfl, step_placeCode_selector s t⟩⟩

end Sys2Proof.Proofs

/-! # The step operations and the tables

The two transcriptions of a step, and the step of the machine inside a `compress` (spec/40_block_compressor.md R106 to R113). -/

namespace Sys2Proof.Proofs

open Sys2Proof Sys2Proof.Machine Sys2Proof.Laws

/-- Settles O19: at each of the 64 indices the tables' entries are the constants written out in the operation it selects. -/
theorem stepsFollowTheTables : Obligations.StepsFollowTheTables := by
  intro t s
  obtain ⟨n, hn, rfl⟩ : ∃ n < 64, t = BitVec.ofNat 6 n := ⟨t.toNat, t.isLt, by simp⟩
  interval_cases n <;> rfl

/-- Settles O45: the selected operation answers a next state, which the sequencing takes on. -/
theorem stepRunsSelectedOperation : Obligations.StepRunsSelectedOperation := by
  intro s t hillegal hidx
  have hexec := stepsFollowTheTables t s
  refine ⟨_, hexec, ?_⟩
  rw [step_internal hillegal hidx, hexec]
  rfl

end Sys2Proof.Proofs

/-! # Rendering and comparing the digest

`HEXENC` and `HEXCMP` (spec/42_hex_codec.md R231, R233). -/

namespace Sys2Proof.Proofs

open Sys2Proof Sys2Proof.Machine Sys2Proof.Laws

/-- Settles O34: with a valid digest HEX holds the characters of `toHex`, without one `HEXENC` faults. -/
theorem hexencRendersDigest : Obligations.HexencRendersDigest := fun s =>
  ⟨fun hdigest => ⟨toHex s.digest, execHexenc_valid hdigest, fun i hi => ⟨toHex_even s.digest i hi, toHex_odd s.digest i hi⟩⟩,
    execHexenc_invalid⟩

/-- R233: a comparison answers 1 exactly while HEX is valid and holds the string; a string of another length is not equal to it. -/
theorem compareFlag_eq_true_iff (s : State) (p : List Byte) :
    compareFlag s p = true ↔ s.hexValid = true ∧ p = s.hex.toList := by
  have hlen : p = s.hex.toList → p.length = 32 := fun h => by simp [h]
  simp only [compareFlag, Bool.and_eq_true, decide_eq_true_eq, and_assoc]
  exact and_congr_right fun _ => and_iff_right_of_imp hlen

end Sys2Proof.Proofs

/-! # Command sequences and their byte stream

A command neither reads nor changes the bytes behind it, so that running the byte stream of a command sequence is executing the
commands one after the other (spec/20_memory.md R58, R60; spec/30_encoding.md R70). -/

namespace Sys2Proof.Proofs

open Sys2Proof Sys2Proof.Machine Sys2Proof.Laws

variable {i : Instr} {s t : State}

/-! ### Executing a sequence -/

/-- A sequence whose first instruction answers a next state goes on from it. -/
theorem execAll_cons_of_next {is : List Instr} (h : exec i s = .next t) : execAll (i :: is) s = execAll is t := by
  simp [execAll, h]

/-- A sequence whose first part answers a next state goes on from it. -/
theorem execAll_append_of_next {is js : List Instr} (h : execAll is s = .next t) :
    execAll (is ++ js) s = execAll js t := by
  induction is generalizing s with
  | nil => cases h; rfl
  | cons i is ih =>
    cases hi : exec i s with
    | next u =>
      rw [execAll_cons_of_next hi] at h
      rw [List.cons_append, execAll_cons_of_next hi, ih h]
    | fault r => simp [execAll, hi] at h
    | refused r => simp [execAll, hi] at h

/-! ### From the byte stream to the sequence -/

/-- R58, R70: an instruction answers a next state and leaves the unconsumed bytes, whatever they are, as they were. Each branch an
instruction takes hangs on its operand, `phase` or `digestValid`. -/
theorem exec_consume (i : Instr) (s : State) :
    ∃ t, exec i s = .next t ∧ ∀ rest, exec i (consume s rest) = .next (consume t rest) := by
  cases i with
  | update p =>
    by_cases hp : s.phase = .accum
    · exact ⟨_, execUpdate_accum p hp, fun _ => execUpdate_accum p hp⟩
    · exact ⟨_, execUpdate_wrong_phase p hp, fun _ => execUpdate_wrong_phase p hp⟩
  | final =>
    by_cases hp : s.phase = .accum
    · exact ⟨_, execFinal_accum hp, fun _ => execFinal_accum hp⟩
    · exact ⟨_, execFinal_wrong_phase hp, fun _ => execFinal_wrong_phase hp⟩
  | hexenc =>
    cases hd : s.digestValid with
    | true => exact ⟨_, execHexenc_valid hd, fun _ => execHexenc_valid hd⟩
    | false => exact ⟨_, execHexenc_invalid hd, fun _ => execHexenc_invalid hd⟩
  | hexdec p =>
    cases hr : fromHex p with
    | some bytes => exact ⟨_, execHexdec_some hr, fun _ => execHexdec_some hr⟩
    | none => exact ⟨_, execHexdec_none hr, fun _ => execHexdec_none hr⟩
  | _ => exact ⟨_, rfl, fun _ => rfl⟩

/-- R70 to R74: a byte stream can carry it: a host command whose payload fits its length field. -/
def Transmittable (i : Instr) : Prop := WellFormed i ∧ isCommand i = true

/-- R70 to R74: the bytes of such a command decode to it. -/
theorem decodeCommand_encodeBytes_append (h : Transmittable i) (rest : List Byte) :
    decodeCommand (encodeBytes i ++ rest) = .instr i rest := by
  obtain ⟨hwf, hcommand⟩ := h
  cases henc : encode i with
  | bytes bs =>
    rw [show encodeBytes i = bs by simp [encodeBytes, henc]]
    exact decodeCommand_encode_append hwf henc rest
  | selector t => simp [isCommand, henc] at hcommand

/-- R60, R70: from a command boundary the byte stream of a sequence is run in as many steps as it has commands, consumed, and does what
the commands do one after the other. -/
theorem run_encodeStream (is : List Instr) (his : ∀ i ∈ is, Transmittable i) (hillegal : s.errIllegal = false)
    (hidx : s.stepIndex = none) :
    Sys2Proof.core.run is.length (consume s (encodeStream is)) = execAll is (consume s []) := by
  induction is generalizing s with
  | nil => rfl
  | cons i is ih =>
    obtain ⟨t, ht, hconsume⟩ := exec_consume i s
    obtain ⟨-, -, -, -, -, -, -, -, -, -, -, -, htillegal, htidx, -⟩ := onlyTheListedCommandsWrite i s t ht
    have hdecode : decodeCommand (consume s (encodeStream (i :: is))).input = .instr i (encodeStream is) :=
      decodeCommand_encodeBytes_append (his i (by simp)) (encodeStream is)
    have hstep : step (consume s (encodeStream (i :: is))) = .next (consume t (encodeStream is)) :=
      (step_command (s := consume s (encodeStream (i :: is))) hillegal hidx hdecode).trans (hconsume _)
    rw [List.length_cons, run_succ_of_next hstep, execAll_cons_of_next (hconsume []),
      ih (fun j hj => his j (by simp [hj])) (htillegal.trans hillegal) (htidx.trans hidx)]

/-- R55, R60: the byte stream of a sequence, transferred to an idle core, does what the sequence does. -/
theorem run_transfer_encodeStream (is : List Instr) (his : ∀ i ∈ is, Transmittable i) (hillegal : s.errIllegal = false)
    (hidx : s.stepIndex = none) (hinput : s.input = []) :
    Sys2Proof.core.run is.length (transfer s (encodeStream is)) = execAll is s := by
  have hidle : consume s [] = s := by rw [← hinput]; rfl
  rw [transfer_of_not_halted hillegal, hinput, List.nil_append, run_encodeStream is his hillegal hidx, hidle]

end Sys2Proof.Proofs

/-! # The digest of a message

What `INIT`, `UPDATE`s and `FINAL` leave (spec/41_digest_engine.md R201 to R208; spec/30_encoding.md R82). -/

namespace Sys2Proof.Proofs

open Sys2Proof Sys2Proof.Machine Sys2Proof.Laws

variable {s t : State}

/-! ### The padded message -/

/-- R204: the zero run of the fill `f`, by the formula of R82. -/
theorem padding_eq (f : Nat) (hf : f < 64) : padding f = 0x80 :: List.replicate ((119 - f) % 64) 0 := by
  have hzeros : padLength f - 1 = (119 - f) % 64 := by
    unfold padLength
    split <;> omega
  rw [padding, hzeros]

/-- R82, R204: a message, the padding of its fill and its bit count are the padded message. -/
theorem append_padding_eq_paddedMessage (m : List Byte) :
    m ++ (padding (m.length % 64) ++ bytesLE64 (BitVec.ofNat 64 (8 * m.length))) = paddedMessage m := by
  rw [padding_eq _ (Nat.mod_lt _ (by decide)), paddedMessage]
  simp

/-- R82: the padded message is whole blocks. -/
theorem paddedMessage_length (m : List Byte) : (paddedMessage m).length = 64 * blockCount m.length := by
  simp only [paddedMessage, bytesLE64, blockCount, List.length_append, List.length_replicate, List.length_cons, List.length_nil]
  omega

/-- R202, R208: absorbing the padded message from a context just begun compresses it block by block. -/
theorem absorb_paddedMessage_h (c : Context) (m : List Byte) (hcnt : c.cnt = 0) :
    (absorb c (paddedMessage m)).h = compressBlocks (blockCount m.length) c.h (paddedMessage m) := by
  have hfill : fill c.cnt = 0 := by rw [hcnt]; rfl
  obtain ⟨habsorb, -⟩ := absorb_blocks c (paddedMessage m)
  rw [habsorb, hfill, buffered_of_fill_zero c hfill, paddedMessage_length, Nat.zero_add, Nat.mul_div_cancel_left _ (by decide),
    List.nil_append]

/-- R205, R208: the bytes `FINAL` absorbs behind a message complete its padded message, and the result is its digest. -/
theorem serialise_absorb_padding (c : Context) (m : List Byte) (hcnt : c.cnt = 0) (hh : c.h = initialDigestState) :
    serialise (absorb (absorb c m) (padding (fill (absorb c m).cnt) ++ bytesLE64 (absorb c m).cnt)).h = md5 m := by
  have hcount : (absorb c m).cnt = BitVec.ofNat 64 (8 * m.length) := by simp [absorb_cnt, hcnt]
  have hfill : fill (absorb c m).cnt = m.length % 64 := by rw [absorb_fill, hcnt, fill_zero, Nat.zero_add]
  rw [hfill, hcount, ← absorb_append, append_padding_eq_paddedMessage, absorb_paddedMessage_h c m hcnt, hh, md5]

/-! ### The commands of a digest -/

/-- R33: what reads no hidden value is the same of two states that differ at most there. -/
theorem eq_of_sameButHidden {α : Type} (f : State → α) (h : SameButHidden s t)
    (hf : ∀ u, f (forgetHidden u) = f u := by exact fun _ => rfl) : f s = f t := by
  rw [← hf s, ← hf t, h]

/-- R33: the end of a command changes hidden values only. -/
theorem sameButHidden_endCommand (s : State) : SameButHidden (endCommand s) s := rfl

/-- R203, R207: `UPDATE`s in ACCUM absorb their payloads one after the other and leave everything else. -/
theorem execAll_updates (payloads : List (List Byte)) (h : s.phase = .accum) :
    ∃ t, execAll (payloads.map Instr.update) s = .next t ∧ SameButHidden t { s with ctx := absorb s.ctx payloads.flatten } := by
  induction payloads generalizing s with
  | nil => exact ⟨s, rfl, rfl⟩
  | cons p payloads ih =>
    obtain ⟨t, ht, hsame⟩ := ih (s := endCommand { s with ctx := absorb s.ctx p }) h
    refine ⟨t, (execAll_cons_of_next (i := .update p) (execUpdate_accum p h)).trans ht, ?_⟩
    rw [List.flatten_cons, absorb_append]
    exact hsame

/-- R33, R205: what `FINAL` does hangs on no hidden value. -/
theorem sameButHidden_finalise (h : SameButHidden s t) : SameButHidden (endCommand (finalise s)) (finalise t) :=
  eq_of_sameButHidden (fun u => forgetHidden (finalise u)) h

/-- R205, R206: the state after the digest of `m`, the hidden working state apart. -/
def digested (s : State) (m : List Byte) : State :=
  { s with
    ctx := .zero, phase := .finalized, digest := md5 m, digestValid := true, hexValid := false, matched := false }

/-- R208: `INIT`, any `UPDATE`s and `FINAL` leave the digest of the concatenated payloads, wipe the context and change no other
register. -/
theorem execAll_digest (s : State) (payloads : List (List Byte)) :
    ∃ t, execAll (.init :: payloads.map Instr.update ++ [.final]) s = .next t ∧
      SameButHidden t (digested s payloads.flatten) := by
  obtain ⟨u, hu, hsame⟩ := execAll_updates payloads (s := endCommand { s with
    ctx := { s.ctx with h := initialDigestState, cnt := 0 }, phase := .accum }) rfl
  have hphase : u.phase = .accum := eq_of_sameButHidden State.phase hsame
  have hprefix : execAll (.init :: payloads.map Instr.update) s = .next u := (execAll_cons_of_next rfl).trans hu
  refine ⟨endCommand (finalise u), ?_, ?_⟩
  · rw [execAll_append_of_next hprefix]
    exact execAll_cons_of_next (execFinal_accum hphase)
  · refine (sameButHidden_finalise hsame).trans ?_
    simp only [finalise_eq, endCommand_ctx]
    rw [serialise_absorb_padding _ _ rfl rfl]
    rfl

/-! ### The pseudo-instructions (R80) -/

/-- R80: the pieces of a message, put together, are the message. -/
theorem messagePieces_flatten (n : Nat) (m : List Byte) (h : m.length ≤ n) : (messagePieces n m).flatten = m := by
  induction n generalizing m with
  | zero =>
    rw [List.length_eq_zero_iff.1 (Nat.le_zero.1 h)]
    rfl
  | succ n ih =>
    cases m with
    | nil => rfl
    | cons b bytes =>
      rw [messagePieces, List.flatten_cons, ih _ (by simp at h ⊢; omega), List.take_append_drop]

/-- R80: each piece of a message fits the length field of `UPDATE`. -/
theorem length_le_of_mem_messagePieces (n : Nat) (m : List Byte) : ∀ p ∈ messagePieces n m, p.length ≤ 65535 := by
  fun_induction messagePieces n m with
  | case1 | case2 => simp
  | case3 n b bytes ih =>
    intro p hp
    obtain rfl | hp := List.mem_cons.1 hp
    · simp
    · exact ih p hp

/-- R80: a byte stream can carry the commands of `DIGEST s`. -/
theorem transmittable_expandDigest (m : List Byte) : ∀ i ∈ expandDigest m, Transmittable i := by
  simp only [expandDigest, List.mem_append, List.mem_cons, List.mem_map, List.not_mem_nil, or_false]
  rintro i ((rfl | ⟨p, hp, rfl⟩) | rfl)
  · exact ⟨rfl, rfl⟩
  · exact ⟨(wellFormed_update p).2 (length_le_of_mem_messagePieces _ _ p hp), rfl⟩
  · exact ⟨rfl, rfl⟩

/-- R80: a byte stream can carry the commands of `VERIFY s, h` for every `h` the length field of `HEXCMP` can carry. -/
theorem transmittable_expandVerify (m reference : List Byte) (h : reference.length ≤ 255) :
    ∀ i ∈ expandVerify m reference, Transmittable i := by
  simp only [expandVerify, List.mem_append, List.mem_cons, List.not_mem_nil, or_false]
  rintro i (hi | rfl | rfl)
  · exact transmittable_expandDigest m i hi
  · exact ⟨rfl, rfl⟩
  · exact ⟨(wellFormed_hexcmp reference).2 h, rfl⟩

/-- R80, R208: the commands of `DIGEST s` leave the digest of `s`. -/
theorem execAll_expandDigest (s : State) (m : List Byte) :
    ∃ t, execAll (expandDigest m) s = .next t ∧ SameButHidden t (digested s m) := by
  have h := execAll_digest s (messagePieces m.length m)
  rwa [messagePieces_flatten m.length m le_rfl] at h

/-- Settles O31: the stream does what its commands do, and they change of a state what `digested` says. -/
theorem digestStreamComputesMd5 : Obligations.DigestStreamComputesMd5 := by
  intro s message hillegal hidx hinput
  obtain ⟨t, ht, hsame⟩ := execAll_expandDigest s message
  have hrun := run_transfer_encodeStream _ (transmittable_expandDigest message) hillegal hidx hinput
  have herrState := eq_of_sameButHidden State.errState hsame
  have herrIllegal := eq_of_sameButHidden State.errIllegal hsame
  have htinput := eq_of_sameButHidden State.input hsame
  exact ⟨t, hrun.trans ht, eq_of_sameButHidden State.digest hsame, eq_of_sameButHidden State.digestValid hsame,
    eq_of_sameButHidden State.phase hsame, eq_of_sameButHidden State.ctx hsame, htinput.trans hinput,
    herrState, herrIllegal.trans hillegal⟩

/-- R231: the state after `HEXENC` on a valid digest, the hidden working state apart. -/
def rendered (s : State) : State := { s with hex := toHex s.digest, hexValid := true }

/-- R233: the state after `HEXCMP`, the hidden working state apart. -/
def compared (s : State) (reference : List Byte) : State := { s with matched := compareFlag s reference }

/-- R33, R233: what `HEXCMP` does hangs on no hidden value. -/
theorem sameButHidden_compared (reference : List Byte) (h : SameButHidden s t) :
    SameButHidden (compared s reference) (compared t reference) :=
  eq_of_sameButHidden (fun u => forgetHidden (compared u reference)) h

/-- R33, R231: what `HEXENC` does hangs on no hidden value. -/
theorem sameButHidden_rendered (h : SameButHidden s t) : SameButHidden (rendered s) (rendered t) :=
  eq_of_sameButHidden (fun u => forgetHidden (rendered u)) h

/-- R231, R233: `HEXENC` and `HEXCMP` render the valid digest and compare it, and change no other register. -/
theorem execAll_hexenc_hexcmp (reference : List Byte) (h : s.digestValid = true) :
    ∃ t, execAll [.hexenc, .hexcmp reference] s = .next t ∧ SameButHidden t (compared (rendered s) reference) := by
  have hhexenc : exec .hexenc s = .next (endCommand (rendered s)) := execHexenc_valid h
  exact ⟨endCommand (compared (endCommand (rendered s)) reference), execAll_cons_of_next hhexenc,
    (sameButHidden_endCommand _).trans (sameButHidden_compared reference (sameButHidden_endCommand _))⟩

/-- R80: the commands of `VERIFY s, h` leave the digest of `s` rendered and compared with `h`. -/
theorem execAll_expandVerify (s : State) (m reference : List Byte) :
    ∃ t, execAll (expandVerify m reference) s = .next t ∧ SameButHidden t (compared (rendered (digested s m)) reference) := by
  obtain ⟨u, hu, hdigested⟩ := execAll_expandDigest s m
  have hvalid : u.digestValid = true := eq_of_sameButHidden State.digestValid hdigested
  obtain ⟨t, ht, hrendered⟩ := execAll_hexenc_hexcmp reference hvalid
  exact ⟨t, (execAll_append_of_next hu).trans ht,
    hrendered.trans (sameButHidden_compared reference (sameButHidden_rendered hdigested))⟩

/-- Settles O32: the stream does what its commands do, and the last of them compares the reference with the digest's characters. -/
theorem verifyStreamDecidesEquality : Obligations.VerifyStreamDecidesEquality := by
  intro s message reference hillegal hidx hinput hlen
  obtain ⟨t, ht, hsame⟩ := execAll_expandVerify s message reference
  have hrun := run_transfer_encodeStream _ (transmittable_expandVerify message reference hlen) hillegal hidx hinput
  have hmatched := eq_of_sameButHidden State.matched hsame
  have hhex := eq_of_sameButHidden State.hex hsame
  have hhexValid := eq_of_sameButHidden State.hexValid hsame
  have herrState := eq_of_sameButHidden State.errState hsame
  have htinput := eq_of_sameButHidden State.input hsame
  refine ⟨t, hrun.trans ht, ?_, hhex, hhexValid, htinput.trans hinput, herrState⟩
  rw [hmatched]
  exact (compareFlag_eq_true_iff _ _).trans (and_iff_right rfl)

end Sys2Proof.Proofs

/-! # The round functions

The four round functions of the compressor, word by word and bit by bit, and the rounds that use them
(spec/40_block_compressor.md R102 to R105; spec/30_encoding.md R78). -/

namespace Sys2Proof.Proofs

open Sys2Proof Sys2Proof.Machine

variable (x y z : Word) (i : Nat)

/-! ### Bit by bit -/

/-- R102: a bit of `x` selects between `y` and `z`. -/
theorem F1_getLsbD : (F1 x y z).getLsbD i = if x.getLsbD i then y.getLsbD i else z.getLsbD i := by
  rw [F1, BitVec.getLsbD_xor, BitVec.getLsbD_and, BitVec.getLsbD_xor]
  cases x.getLsbD i <;> simp [Bool.xor_left_comm]

/-- R103: a bit of `z` selects between `x` and `y`. -/
theorem F2_getLsbD : (F2 x y z).getLsbD i = if z.getLsbD i then x.getLsbD i else y.getLsbD i := F1_getLsbD z x y i

/-- R104: the parity of the three bits. -/
theorem F3_getLsbD : (F3 x y z).getLsbD i = ((x.getLsbD i).xor ((y.getLsbD i).xor (z.getLsbD i))) := by
  rw [F3, BitVec.getLsbD_xor, BitVec.getLsbD_xor, Bool.xor_assoc]

/-- R105: within the word the complement turns every bit. -/
theorem F4_getLsbD (hi : i < 32) : (F4 x y z).getLsbD i = ((y.getLsbD i).xor (x.getLsbD i || !z.getLsbD i)) := by
  simp [F4, hi]

/-! ### The equal forms -/

/-- R102: the selection, written with two masks. -/
theorem F1_eq_or : F1 x y z = (x &&& y) ||| (~~~x &&& z) := by
  apply BitVec.eq_of_getLsbD_eq
  intro i hi
  rw [F1_getLsbD, BitVec.getLsbD_or, BitVec.getLsbD_and, BitVec.getLsbD_and, BitVec.getLsbD_not]
  cases x.getLsbD i <;> simp [hi]

/-- R103: the selection by `z`, written with two masks. -/
theorem F2_eq_or : F2 x y z = (x &&& z) ||| (y &&& ~~~z) := by
  rw [F2, F1_eq_or, BitVec.and_comm z x, BitVec.and_comm (~~~z) y]

/-! ### The rounds -/

/-- R78: a round is 16 steps. -/
theorem roundOf_toNat (t : BitVec 6) : (roundOf t).toNat = t.toNat / 16 := by
  have hlt : t.toNat / 16 < 4 := by omega
  rw [roundOf, BitVec.extractLsb'_toNat, Nat.shiftRight_eq_div_pow, Nat.mod_eq_of_lt hlt]

/-- R102 to R105: the round function of each step. -/
theorem roundFunction_roundOf (t : BitVec 6) : roundFunction (roundOf t) =
    if t.toNat < 16 then F1 else if t.toNat < 32 then F2 else if t.toNat < 48 then F3 else F4 := by
  have hround := roundOf_toNat t
  split_ifs
  · simp only [roundFunction, show (roundOf t).toNat = 0 by omega]
  · simp only [roundFunction, show (roundOf t).toNat = 1 by omega]
  · simp only [roundFunction, show (roundOf t).toNat = 2 by omega]
  · simp only [roundFunction, show (roundOf t).toNat = 3 by omega]

/-- Settles O7: the formulas and their equal forms, the bits, and the rounds. -/
theorem roundFunctionsBitByBit : Obligations.RoundFunctionsBitByBit :=
  ⟨fun x y z => ⟨rfl, F1_eq_or x y z, rfl, rfl, F2_eq_or x y z, rfl, rfl, BitVec.toNat_not⟩,
    fun x y z i hi => ⟨F1_getLsbD x y z i, F2_getLsbD x y z i, F3_getLsbD x y z i, F4_getLsbD x y z i hi⟩,
    roundFunction_roundOf⟩

end Sys2Proof.Proofs

/-! # What each step operation writes

The 64 step operations, each with its own roles, message word, constant and rotation (spec/40_block_compressor.md R110, R120 to
R183). -/

namespace Sys2Proof.Proofs

open Sys2Proof Sys2Proof.Machine

/-- R110: a step operation's write, its value in the order the rules of the 64 steps write the sum. -/
theorem writeStep_stepValue {s : State} {u : WorkVar} {f : Word → Word → Word → Word} {w x y z m k : Word} {r : Nat} :
    writeStep s u (stepValue f w x y z m k r) = .next { s with work := s.work.set (x + rotl32 (w + f x y z + m + k) r) u } := by
  rw [writeStep, stepValue, BitVec.add_comm]

/-- Settles O11: each of the eight operations is a write of its step value. -/
theorem round1FirstHalfStepsWrite : Obligations.Round1FirstHalfStepsWrite := by
  refine ⟨?_, ?_, ?_, ?_, ?_, ?_, ?_, ?_⟩ <;> exact fun _ => writeStep_stepValue

/-- Settles O12: each of the eight operations is a write of its step value. -/
theorem round1SecondHalfStepsWrite : Obligations.Round1SecondHalfStepsWrite := by
  refine ⟨?_, ?_, ?_, ?_, ?_, ?_, ?_, ?_⟩ <;> exact fun _ => writeStep_stepValue

/-- Settles O13: each of the eight operations is a write of its step value. -/
theorem round2FirstHalfStepsWrite : Obligations.Round2FirstHalfStepsWrite := by
  refine ⟨?_, ?_, ?_, ?_, ?_, ?_, ?_, ?_⟩ <;> exact fun _ => writeStep_stepValue

/-- Settles O14: each of the eight operations is a write of its step value. -/
theorem round2SecondHalfStepsWrite : Obligations.Round2SecondHalfStepsWrite := by
  refine ⟨?_, ?_, ?_, ?_, ?_, ?_, ?_, ?_⟩ <;> exact fun _ => writeStep_stepValue

/-- Settles O15: each of the eight operations is a write of its step value. -/
theorem round3FirstHalfStepsWrite : Obligations.Round3FirstHalfStepsWrite := by
  refine ⟨?_, ?_, ?_, ?_, ?_, ?_, ?_, ?_⟩ <;> exact fun _ => writeStep_stepValue

/-- Settles O16: each of the eight operations is a write of its step value. -/
theorem round3SecondHalfStepsWrite : Obligations.Round3SecondHalfStepsWrite := by
  refine ⟨?_, ?_, ?_, ?_, ?_, ?_, ?_, ?_⟩ <;> exact fun _ => writeStep_stepValue

/-- Settles O17: each of the eight operations is a write of its step value. -/
theorem round4FirstHalfStepsWrite : Obligations.Round4FirstHalfStepsWrite := by
  refine ⟨?_, ?_, ?_, ?_, ?_, ?_, ?_, ?_⟩ <;> exact fun _ => writeStep_stepValue

/-- Settles O18: each of the eight operations is a write of its step value. -/
theorem round4SecondHalfStepsWrite : Obligations.Round4SecondHalfStepsWrite := by
  refine ⟨?_, ?_, ?_, ?_, ?_, ?_, ?_, ?_⟩ <;> exact fun _ => writeStep_stepValue

end Sys2Proof.Proofs

/-! # A compress, one step at a time

The machine inside a `compress` (spec/40_block_compressor.md R100, R111 to R113): the state after each of its steps, and the
`compress` it ends with. That a `compress` can be taken one step at a time is the model's reading (log entry 1). -/

namespace Sys2Proof.Proofs

open Sys2Proof Sys2Proof.Machine Sys2Proof.Laws

/-! ### The steps in their order -/

/-- R113: the first `n` steps, each on what the one before left. -/
def runFirstSteps (n : Nat) (q : Work) : Work := (List.range n).foldl (fun q k => genericStep (BitVec.ofNat 6 k) q) q

/-- R113: one more step is the generic step at the next index. -/
theorem runFirstSteps_succ (n : Nat) (q : Work) :
    runFirstSteps (n + 1) q = genericStep (BitVec.ofNat 6 n) (runFirstSteps n q) := by
  simp [runFirstSteps, List.range_succ]

/-- R113: the first 64 steps are all of them. -/
theorem runSteps_eq_runFirstSteps (q : Work) : runSteps q = runFirstSteps 64 q := by
  rw [runSteps, stepOrder, List.foldl_map, runFirstSteps]

variable {s t u : State}

/-! ### The state inside a compress -/

/-- A run and one more step. -/
theorem run_succ_of_run {n : Nat} (hrun : Sys2Proof.core.run n s = .next t) (hstep : step t = .next u) :
    Sys2Proof.core.run (n + 1) s = .next u := by
  rw [run_add_of_next hrun, run_succ_of_next hstep, run_zero]

/-- R106 to R113: inside a `compress` the machine takes the generic step of its index and goes on. -/
theorem step_internal_genericStep {i : BitVec 6} (hillegal : s.errIllegal = false) (hidx : s.stepIndex = some i) :
    step s = .next (advanceStep i { s with work := genericStep i s.work }) := by
  rw [step_internal hillegal hidx, stepsFollowTheTables, mapNext]

/-- R111, R113: a `compress` of `H` and `BUF` after `n` steps. -/
def compressing (s : State) (n : Nat) : State :=
  { s with work := runFirstSteps n (seedWork s.ctx.h s.ctx.buf), stepIndex := some (BitVec.ofNat 6 n) }

/-- R110, R113: each step of a `compress` does the generic step of its index and the sequencing behind it. -/
theorem step_compressing (n : Nat) (hillegal : s.errIllegal = false) : step (compressing s n) =
    .next (advanceStep (BitVec.ofNat 6 n) { compressing s n with work := runFirstSteps (n + 1) (seedWork s.ctx.h s.ctx.buf) }) := by
  rw [step_internal_genericStep (s := compressing s n) hillegal rfl, runFirstSteps_succ]
  rfl

/-- R113: before step 63 the index goes to the next one. -/
theorem step_compressing_of_lt {n : Nat} (hn : n < 63) (hillegal : s.errIllegal = false) :
    step (compressing s n) = .next (compressing s (n + 1)) := by
  have hne : BitVec.ofNat 6 n ≠ 63 := by bv_omega
  rw [step_compressing n hillegal, advanceStep_of_ne hne, compressing, compressing, BitVec.ofNat_add]
  rfl

/-- R112, R113: step 63 ends the `compress` with the feed-forward. -/
theorem step_compressing_last (hillegal : s.errIllegal = false) : step (compressing s 63) =
    .next { s with
      ctx := { s.ctx with h := compress s.ctx.h s.ctx.buf }
      work := runSteps (seedWork s.ctx.h s.ctx.buf)
      stepIndex := none } := by
  rw [step_compressing 63 hillegal, show BitVec.ofNat 6 63 = 63 from rfl, advanceStep_last, compress,
    runSteps_eq_runFirstSteps, compressing]

/-- R113: `n` steps into a `compress`. -/
theorem run_startCompress (n : Nat) (hn : n < 64) (hillegal : s.errIllegal = false) :
    Sys2Proof.core.run n (startCompress s) = .next (compressing s n) := by
  induction n with
  | zero => rfl
  | succ n ih => exact run_succ_of_run (ih (by omega)) (step_compressing_of_lt (by omega) hillegal)

/-- Settles O20: 63 steps lead to index 63, and the last step ends the `compress`. -/
theorem sixtyFourStepsAreCompress : Obligations.SixtyFourStepsAreCompress := fun s hillegal =>
  ⟨⟨_, run_succ_of_run (run_startCompress 63 (by decide) hillegal) (step_compressing_last hillegal)⟩,
    fun n hn => ⟨compressing s n, run_startCompress n hn hillegal, rfl, rfl⟩⟩

end Sys2Proof.Proofs

/-! # The commands of the digest engine

What `INIT`, `UPDATE` and `FINAL` do, one by one and in sequence (spec/41_digest_engine.md R200 to R209;
spec/70_reset_and_hazards.md R276): the padding and the compress calls, the effect of each command, the phases, and the digest. -/

namespace Sys2Proof.Proofs

open Sys2Proof Sys2Proof.Machine Sys2Proof.Laws

variable {s : State}

/-! ### The padding (R204) -/

/-- R10: a count is eight bytes. -/
theorem bytesLE64_length (cnt : Count) : (bytesLE64 cnt).length = 8 := rfl

/-- R204: marker and zero run are at least the marker and at most a block. -/
theorem padLength_bounds {f : Nat} (hf : f < 64) : 1 ≤ padLength f ∧ padLength f ≤ 64 := by
  unfold padLength
  split <;> omega

/-- R204: marker and zero run bring the fill to 56. -/
theorem add_padLength_mod {f : Nat} (hf : f < 64) : (f + padLength f) % 64 = 56 := by
  unfold padLength
  split <;> omega

/-- R204: absorbing marker and zero run leaves fill 56. -/
theorem fill_absorb_padding (c : Context) : fill (absorb c (padding (fill c.cnt))).cnt = 56 := by
  rw [absorb_fill, padding_length _ (fill_lt _), add_padLength_mod (fill_lt _)]

/-- R204: the eight length bytes behind them complete a block. -/
theorem fill_absorb_padding_count (c : Context) :
    fill (absorb (absorb c (padding (fill c.cnt))) (bytesLE64 c.cnt)).cnt = 0 := by
  rw [absorb_fill, fill_absorb_padding, bytesLE64_length]

/-- R204, R205: the bytes `FINAL` absorbs end the block in progress, or that and one more. -/
theorem fill_add_finalBytes_length (cnt : Count) :
    fill cnt + (padding (fill cnt) ++ bytesLE64 cnt).length = if fill cnt ≤ 55 then 64 else 128 := by
  have hlt := fill_lt cnt
  rw [List.length_append, padding_length _ hlt, padLength, bytesLE64_length]
  split <;> split <;> omega

/-! ### How often compress runs (R276) -/

/-- R202, R276: `absorb` compresses once for each block it completes. -/
theorem absorbCompressions_eq (c : Context) (bytes : List Byte) :
    absorbCompressions c bytes = (fill c.cnt + bytes.length) / 64 := by
  induction bytes generalizing c with
  | nil => exact (Nat.div_eq_of_lt (fill_lt c.cnt)).symm
  | cons v bytes ih =>
    have hlt := fill_lt c.cnt
    rw [absorbCompressions, ih, absorbByte_cnt, fill_add_8, List.length_cons]
    split <;> omega

/-- R204, R276: `FINAL` compresses once up to fill 55, else twice. -/
theorem finalCompressions_eq (s : State) : finalCompressions s = if fill s.ctx.cnt ≤ 55 then 1 else 2 := by
  rw [finalCompressions, absorbCompressions_eq, fill_add_finalBytes_length]
  split <;> rfl

/-- Settles O26: the arithmetic of the padding length, and what absorbing it does to the fill. -/
theorem paddingFillsTo56 : Obligations.PaddingFillsTo56 := by
  refine ⟨fun f hf => ?_, fun c => ⟨fill_absorb_padding c, fill_absorb_padding_count c⟩, finalCompressions_eq⟩
  have hmod := add_padLength_mod hf
  obtain ⟨hpos, hle⟩ := padLength_bounds hf
  exact ⟨rfl, rfl, hpos, hle, hmod, by omega, fun z hz => by omega⟩

/-- Settles O27: an `UPDATE` of `n` bytes at count zero leaves the fill `n mod 64`, which decides what `FINAL` adds. -/
theorem compressionCounts : Obligations.CompressionCounts := by
  have hupdate (s : State) (payload : List Byte) : updateCompressions s payload = (fill s.ctx.cnt + payload.length) / 64 :=
    absorbCompressions_eq s.ctx payload
  refine ⟨hupdate, fun s message hcnt => ?_⟩
  rw [hupdate, finalCompressions_eq, absorb_fill, hcnt, fill_zero]
  split <;> omega

/-! ### The commands one by one -/

/-- Settles O21: the three fields `INIT` writes are the only ones. -/
theorem initBeginsDigest : Obligations.InitBeginsDigest := fun _ => rfl

/-- Settles O22: `UPDATE` in ACCUM absorbs its payload, elsewhere it faults. -/
theorem updateAbsorbsBlocks : Obligations.UpdateAbsorbsBlocks := fun payload s =>
  ⟨fun hphase => ⟨absorb s.ctx payload, execUpdate_accum payload hphase, absorb_cnt_toNat s.ctx payload,
      absorb_fill s.ctx payload, absorb_blocks s.ctx payload⟩,
    execUpdate_wrong_phase payload⟩

/-- R204, R205: what `FINAL` absorbs makes one block with the buffered bytes, or two. -/
theorem absorb_finalBytes_h (c : Context) :
    (absorb c (padding (fill c.cnt) ++ bytesLE64 c.cnt)).h = compressBlocks (if fill c.cnt < 56 then 1 else 2) c.h
      (buffered c ++ [0x80] ++ List.replicate ((119 - fill c.cnt) % 64) 0 ++ bytesLE64 c.cnt) := by
  have hblocks : (fill c.cnt + (padding (fill c.cnt) ++ bytesLE64 c.cnt).length) / 64 = if fill c.cnt < 56 then 1 else 2 := by
    rw [fill_add_finalBytes_length]
    split <;> split <;> omega
  obtain ⟨habsorb, -⟩ := absorb_blocks c (padding (fill c.cnt) ++ bytesLE64 c.cnt)
  rw [habsorb, hblocks, padding_eq _ (fill_lt _)]
  simp

/-- Settles O25: `FINAL` in ACCUM is `finalise`, elsewhere it faults. -/
theorem finalProducesDigestAndWipes : Obligations.FinalProducesDigestAndWipes := by
  refine fun s => ⟨fun hphase => (execFinal_accum hphase).trans ?_, execFinal_wrong_phase⟩
  rw [finalise_eq, absorb_finalBytes_h]
  rfl

/-- Settles O29: `FINAL` in ACCUM wipes the context, and outside ACCUM the invariant has it zero already. -/
theorem contextZeroAfterEveryFinal : Obligations.ContextZeroAfterEveryFinal := by
  intro s hinv
  by_cases hphase : s.phase = .accum
  · exact ⟨_, execFinal_accum hphase, finalise_ctx s⟩
  · exact ⟨_, execFinal_wrong_phase hphase, hinv.contextZeroOutsideAccum hphase⟩

/-- Settles O41: each effect an instruction can have, with the phase it leads to and the phase it takes. -/
theorem phaseMovesOnlyAsTabled : Obligations.PhaseMovesOnlyAsTabled := by
  intro i s t h
  cases effect_of_next h with
  | internal q hi =>
    have hne {j : Instr} (hj : isCommand j = true) : i ≠ j := by
      rintro rfl
      simp [hi] at hj
    have hupdate (p : List Byte) : i ≠ .update p := hne rfl
    simp [hne (j := .init) rfl, hne (j := .final) rfl, hupdate]
  | stateFault hcause =>
    obtain ⟨rfl | ⟨p, rfl⟩, hphase⟩ | ⟨rfl, -⟩ := hcause
    · simp [hphase, raiseStateFault]
    · simp [raiseStateFault]
    · simp
  | init hi => simp [hi]
  | update p hi hphase => simp [hi, hphase]
  | final hi hphase => simp [hi, hphase]
  | hexenc hi _ => simp [hi]
  | hexdecGood p r hi _ => simp [hi]
  | hexdecBad p hi _ => simp [hi]
  | hexcmp p hi => simp [hi]

/-! ### The commands in sequence -/

/-- R202, R203, R207: two `UPDATE`s leave the state of the one with both payloads, the hidden working state apart. -/
theorem exec_update_update (p q : List Byte) (hphase : s.phase = .accum) : ∃ t u v,
    exec (.update p) s = .next t ∧ exec (.update q) t = .next u ∧ exec (.update (p ++ q)) s = .next v ∧ SameButHidden u v := by
  refine ⟨_, _, _, execUpdate_accum p hphase, execUpdate_accum q hphase, execUpdate_accum (p ++ q) hphase, ?_⟩
  rw [absorb_append]
  rfl

/-- R208: after `INIT`, `UPDATE`s and `FINAL` the digest register holds the digest of the concatenated payloads. -/
theorem execAll_digest_registers (s : State) (payloads : List (List Byte)) :
    ∃ t, execAll (.init :: payloads.map Instr.update ++ [.final]) s = .next t ∧
      t.digest = md5 payloads.flatten ∧ t.digestValid = true ∧ t.phase = .finalized := by
  obtain ⟨t, ht, hsame⟩ := execAll_digest s payloads
  exact ⟨t, ht, eq_of_sameButHidden State.digest hsame, eq_of_sameButHidden State.digestValid hsame,
    eq_of_sameButHidden State.phase hsame⟩

/-- Settles O24: absorbing is byte by byte, and the digest is a function of the concatenated payloads. -/
theorem updateChunkingIsInvisible : Obligations.UpdateChunkingIsInvisible := by
  refine ⟨fun p q s => exec_update_update p q, fun s => execUpdate_accum [], fun ps qs s s' hflatten => ?_⟩
  obtain ⟨t, ht, hdigest, -⟩ := execAll_digest_registers s ps
  obtain ⟨t', ht', hdigest', -⟩ := execAll_digest_registers s' qs
  exact ⟨t, t', ht, ht', by rw [hdigest, hdigest', hflatten]⟩

/-- Settles O30: the commands compute `md5`, and the three vectors are computed by the kernel. -/
theorem digestCommandsComputeMd5 : Obligations.DigestCommandsComputeMd5 :=
  ⟨execAll_digest_registers, by decide +kernel, by decide +kernel, by decide +kernel⟩

end Sys2Proof.Proofs

/-! # The hex codec

The characters and their nibbles, strings and their bytes, and what `HEXDEC` and `HEXCMP` do (spec/42_hex_codec.md R230 to R234). -/

namespace Sys2Proof.Proofs

open Sys2Proof Sys2Proof.Machine Sys2Proof.Laws

/-! ### Characters and nibbles (R230) -/

/-- R230: the characters `0` to `9`. -/
theorem hexChar_of_le {n : BitVec 4} (h : n ≤ 9) : hexChar n = 0x30 + n.setWidth 8 := if_pos h

/-- R230: the characters `a` to `f`. -/
theorem hexChar_of_not_le {n : BitVec 4} (h : ¬ n ≤ 9) : hexChar n = 0x57 + n.setWidth 8 := if_neg h

/-- R230: the code of a character. -/
theorem hexChar_toNat (n : BitVec 4) :
    (hexChar n).toNat = if n.toNat ≤ 9 then 0x30 + n.toNat else 0x57 + n.toNat := by
  by_cases h : n ≤ 9
  · rw [hexChar_of_le h, if_pos (show n.toNat ≤ 9 from h)]
    bv_omega
  · rw [hexChar_of_not_le h, if_neg (show ¬ n.toNat ≤ 9 from h)]
    bv_omega

/-- R230: a character has the value of its nibble. -/
@[simp] theorem hexVal_hexChar (n : BitVec 4) : hexVal (hexChar n) = some n := by
  revert n
  decide

/-- R230: a byte with a value is the character of that value. -/
theorem hexChar_of_hexVal {c : Byte} {n : BitVec 4} (h : hexVal c = some n) : hexChar n = c := by
  unfold hexVal at h
  split at h
  · next hdigit =>
    cases h
    rw [hexChar_of_le (by bv_omega)]
    bv_omega
  · split at h
    · next hletter =>
      cases h
      rw [hexChar_of_not_le (by bv_omega)]
      bv_omega
    · cases h

/-- R230: the bytes without a value are those outside the two ranges. -/
theorem hexVal_eq_none_iff (c : Byte) :
    hexVal c = none ↔ ¬ (0x30 ≤ c.toNat ∧ c.toNat ≤ 0x39) ∧ ¬ (0x61 ≤ c.toNat ∧ c.toNat ≤ 0x66) := by
  unfold hexVal
  split
  · next hdigit => exact iff_of_false nofun fun ⟨hnone, _⟩ => hnone hdigit
  · next hdigit =>
    split
    · next hletter => exact iff_of_false nofun fun ⟨_, hnone⟩ => hnone hletter
    · next hletter => exact iff_of_true rfl ⟨hdigit, hletter⟩

/-- Settles O33: the code of a character, and the two functions as inverses of each other. -/
theorem hexCharactersAreInverse : Obligations.HexCharactersAreInverse :=
  ⟨fun n => ⟨hexChar_toNat n, hexVal_hexChar n⟩, fun _ _ => hexChar_of_hexVal, hexVal_eq_none_iff⟩

/-! ### Strings and bytes (R231, R232) -/

/-- R232: `fromHex` decodes every string of 32 characters of the alphabet. -/
theorem fromHex_of_alphabet {str : List Byte} (h : str.length = 32 ∧ ∀ c ∈ str, hexVal c ≠ none) :
    fromHex str = some (Vector.ofFn fun i : Fin 16 => hexByte str i.val) :=
  if_pos (by simpa [Option.isSome_iff_ne_none] using h)

/-- R232: `fromHex` refuses every other string. -/
theorem fromHex_of_not_alphabet {str : List Byte} (h : ¬ (str.length = 32 ∧ ∀ c ∈ str, hexVal c ≠ none)) :
    fromHex str = none :=
  if_neg (by simpa [Option.isSome_iff_ne_none] using h)

/-- R232: the byte of two characters has their nibbles, the first one high. -/
theorem hexByte_eq_append {str : List Byte} {i : Nat} {hi lo : BitVec 4} (hhi : str[2 * i]?.bind hexVal = some hi)
    (hlo : str[2 * i + 1]?.bind hexVal = some lo) : hexByte str i = hi ++ lo := by
  simp [hexByte, hhi, hlo]

/-- R9: a byte of two nibbles as a number. -/
theorem toNat_nibbles (hi lo : BitVec 4) : (hi ++ lo).toNat = 16 * hi.toNat + lo.toNat := by
  rw [BitVec.toNat_append, ← Nat.shiftLeft_add_eq_or_of_lt lo.isLt, Nat.shiftLeft_eq, Nat.mul_comm]

/-- R231, R232: the two characters of a byte in `toHex` give that byte. -/
theorem hexByte_toHex (d : Vector Byte 16) (i : Nat) (h : i < 16) : hexByte (toHex d).toList i = d[i] := by
  rw [hexByte_eq_append (hi := d[i].extractLsb' 4 4) (lo := d[i].extractLsb' 0 4)]
  · exact BitVec.extractLsb'_append_extractLsb'
  · simp [toHex_even d i h, show 2 * i < 32 by omega]
  · simp [toHex_odd d i h, show 2 * i + 1 < 32 by omega]

/-- R231: each character of `toHex` is the character of a nibble. -/
theorem hexVal_ne_none_of_mem_toHex {d : Vector Byte 16} {c : Byte} (h : c ∈ (toHex d).toList) : hexVal c ≠ none := by
  obtain ⟨j, rfl⟩ := Vector.mem_ofFn.mp (Vector.mem_toList_iff.mp h)
  split <;> simp

/-- R234: decoding what `toHex` gives. -/
theorem fromHex_toHex (d : Vector Byte 16) : fromHex (toHex d).toList = some d := by
  rw [fromHex_of_alphabet ⟨by simp, fun _ => hexVal_ne_none_of_mem_toHex⟩, Option.some_inj]
  ext i hi : 1
  simp [hexByte_toHex d i hi]

/-- R231: `toHex` is injective, since `fromHex` undoes it. -/
theorem toHex_injective : Function.Injective toHex := fun d d' h => by
  rw [← Option.some_inj, ← fromHex_toHex d, h, fromHex_toHex]

/-- R232: the high nibble of a byte is the first character's. -/
theorem hexByte_high (str : List Byte) (i : Nat) :
    (hexByte str i).extractLsb' 4 4 = (str[2 * i]?.bind hexVal).getD 0 :=
  BitVec.extractLsb'_append_eq_left

/-- R232: the low nibble of a byte is the second character's. -/
theorem hexByte_low (str : List Byte) (i : Nat) :
    (hexByte str i).extractLsb' 0 4 = (str[2 * i + 1]?.bind hexVal).getD 0 :=
  BitVec.extractLsb'_append_eq_right

/-- R234: encoding what `fromHex` gives, character by character. -/
theorem toHex_of_fromHex {str : List Byte} {d : Vector Byte 16} (h : fromHex str = some d) : (toHex d).toList = str := by
  obtain ⟨hlen, halphabet, rfl⟩ := fromHex_eq_some h
  have hchar (j : Nat) (hj : j < str.length) : hexChar ((str[j]?.bind hexVal).getD 0) = str[j] := by
    obtain ⟨n, hn⟩ := Option.isSome_iff_exists.mp (halphabet _ (List.getElem_mem hj))
    simpa [hj, hn] using hexChar_of_hexVal hn
  refine List.ext_getElem (by simp [hlen]) fun j _ hj => ?_
  obtain ⟨i, hi, rfl | rfl⟩ : ∃ i < 16, j = 2 * i ∨ j = 2 * i + 1 := ⟨j / 2, by omega, by omega⟩
  · rw [Vector.getElem_toList, toHex_even _ i hi, Vector.getElem_ofFn, hexByte_high, hchar]
  · rw [Vector.getElem_toList, toHex_odd _ i hi, Vector.getElem_ofFn, hexByte_low, hchar]

/-! ### The commands (R232 to R234) -/

/-- Settles O35: `HEXDEC` takes the branch of a decoded string or that of a refused one, and a decoded byte is its two nibbles. -/
theorem hexdecDecodesOrClears : Obligations.HexdecDecodesOrClears := by
  refine fun payload s => ⟨fun halphabet =>
      ⟨_, execHexdec_some (fromHex_of_alphabet halphabet), fun i hi high low hhigh hlow => ?_⟩,
    fun hmalformed => execHexdec_none (fromHex_of_not_alphabet hmalformed)⟩
  rw [Vector.getElem_ofFn, hexByte_eq_append hhigh hlow, toNat_nibbles]

/-- R233: a string is the 32 bytes of a register exactly when it has as many and each is equal. -/
theorem eq_toList_iff (p : List Byte) (r : Vector Byte 32) :
    p = r.toList ↔ p.length = 32 ∧ ∀ j (h : j < 32), p[j]? = some r[j] := by
  constructor
  · rintro rfl
    exact ⟨by simp, fun j h => by simp [h]⟩
  · rintro ⟨hlen, hbytes⟩
    refine List.ext_getElem (by simp [hlen]) fun j hj _ => ?_
    obtain ⟨_, hbyte⟩ := List.getElem?_eq_some_iff.mp (hbytes j (by omega))
    simpa using hbyte

/-- Settles O36: `HEXCMP` writes the comparison to MATCH, which is 1 on the string of a valid HEX. -/
theorem hexcmpWritesMatchOnly : Obligations.HexcmpWritesMatchOnly := fun payload s =>
  ⟨compareFlag s payload, rfl, by rw [compareFlag_eq_true_iff, eq_toList_iff]⟩

/-- R234: `HEXENC` with a valid digest, and `HEXDEC` of the bytes it leaves in HEX. -/
theorem exec_hexenc_hexdec {s : State} (hdigest : s.digestValid = true) :
    ∃ t u, exec .hexenc s = .next t ∧ exec (.hexdec t.hex.toList) t = .next u ∧ u.raw = s.digest ∧ u.rawValid = true := by
  have hraw (t : State) (hhex : t.hex = toHex s.digest) :
      exec (.hexdec t.hex.toList) t = .next (endCommand { t with raw := s.digest, rawValid := true }) :=
    execHexdec_some (by rw [hhex, fromHex_toHex])
  exact ⟨_, _, execHexenc_valid hdigest, hraw _ rfl, rfl, rfl⟩

/-- Settles O37: `toHex` and `fromHex` undo each other, and so do the commands. -/
theorem hexRoundTrip : Obligations.HexRoundTrip :=
  ⟨fromHex_toHex, fun _ _ => toHex_of_fromHex, fun _ _ => toHex_injective.eq_iff, fun _ => exec_hexenc_hexdec⟩

end Sys2Proof.Proofs

/-! # Faults and the halt

The two faults and what each leaves (spec/60_exceptions.md R250 to R258): StateFault, the only fault an instruction raises, and the
halt after an undefined opcode. -/

namespace Sys2Proof.Proofs

open Sys2Proof Sys2Proof.Machine Sys2Proof.Laws

variable {i : Instr} {s t : State}

/-! ### StateFault (R250, R251) -/

/-- Settles O39: an instruction answers a next state on every branch it can take. -/
theorem everyInstructionCompletes : Obligations.EveryInstructionCompletes := fun i s =>
  let ⟨t, ht, _⟩ := exec_consume i s
  ⟨t, ht⟩

/-- R251: outside the listed causes of StateFault no effect changes `ERR_STATE`. -/
theorem effect_errState_of_no_cause (he : Effect i s t)
    (hphase : ¬ (s.phase ≠ .accum ∧ (i = .final ∨ ∃ payload, i = .update payload)))
    (hdigest : ¬ (s.digestValid = false ∧ i = .hexenc)) : t.errState = s.errState := by
  cases he with
  | stateFault hcause =>
    obtain hcause | hcause := hcause
    · exact absurd hcause.symm hphase
    · exact absurd hcause.symm hdigest
  | _ => simp

/-- R251: a faulting `UPDATE` on the stream is consumed with its payload. -/
theorem step_update_wrong_phase {payload rest : List Byte} (hwf : WellFormed (.update payload)) (hphase : s.phase ≠ .accum)
    (hillegal : s.errIllegal = false) (hidx : s.stepIndex = none)
    (hinput : s.input = encodeBytes (.update payload) ++ rest) : step s = .next (raiseStateFault (consume s rest)) := by
  have hdecode : decodeCommand s.input = .instr (.update payload) rest :=
    hinput ▸ decodeCommand_encodeBytes_append ⟨hwf, rfl⟩ rest
  exact (step_command hillegal hidx hdecode).trans (execUpdate_wrong_phase (s := consume s rest) payload hphase)

/-- Settles O38: the three faulting branches, every other effect, and the step on a faulting `UPDATE`. -/
theorem stateFaultCausesAreComplete : Obligations.StateFaultCausesAreComplete :=
  ⟨fun payload _ => execUpdate_wrong_phase payload, fun _ => execFinal_wrong_phase, fun _ => execHexenc_invalid,
    fun _ _ _ hphase hdigest h => effect_errState_of_no_cause (effect_of_next h) hphase hdigest,
    fun _ _ _ => step_update_wrong_phase⟩

/-! ### The halt (R252, R258) -/

/-- R31, R252: an illegal command sets bit 7 of STATUS and no other bit. -/
theorem status_raiseIllegalCommand (s : State) : status (raiseIllegalCommand s) = status s ||| 0x80 := by
  apply BitVec.eq_of_getLsbD_eq
  intro k hk
  simp only [status, BitVec.getLsbD_or, BitVec.getLsbD_append]
  interval_cases k <;> simp

/-- R252: a halted core takes no byte. -/
theorem transfer_halted (h : s.errIllegal = true) (bytes : List Byte) : transfer s bytes = s := if_pos h

/-- R58, R252: a halted core shows its registers and accepts no byte. -/
theorem observe_halted (h : s.errIllegal = true) :
    observe s = some ⟨statusPort s, digestPort s, hexPort s, rawPort s, false⟩ := by
  simp [observe, atBoundary, fetch, outputs, acceptsByte, h]

/-- R58, R252: after an illegal command the ports show the registers from before it, and STATUS[7] = 1. -/
theorem observe_raiseIllegalCommand (s : State) : observe (raiseIllegalCommand s) =
    some ⟨statusPort s ||| 0x80, digestPort s, hexPort s, rawPort s, false⟩ := by
  rw [observe_halted rfl, show statusPort (raiseIllegalCommand s) = statusPort s ||| 0x80 from status_raiseIllegalCommand s]
  rfl

/-- Settles O46: the step takes the opcode and halts; what a halted core does and shows is the same whatever bytes are left. -/
theorem illegalOpcodeHaltsCore : Obligations.IllegalOpcodeHaltsCore := by
  intro s op rest hillegal hidx hinput hundefined
  have hdecode : decodeCommand s.input = .illegal op rest :=
    hinput ▸ decodeCommand_of_no_row op rest (opcodeRow_none_of_undefined op hundefined)
  exact ⟨raiseIllegalCommand (consume s rest), step_illegal hillegal hidx hdecode, rfl, step_halted rfl, rfl,
    transfer_halted rfl, observe_raiseIllegalCommand (consume s rest), rfl⟩

end Sys2Proof.Proofs

/-! # Reset and the idle core

What the reset event leaves of a state, and a core that no byte has reached (spec/70_reset_and_hazards.md R270, R271). -/

namespace Sys2Proof.Proofs

open Sys2Proof Sys2Proof.Machine Sys2Proof.Laws

/-! ### No byte sent (R271) -/

/-- R262, R271: a core that is not halted, with no `compress` in progress and no byte received, fetches nothing. -/
theorem fetch_idle {s : State} (hillegal : s.errIllegal = false) (hidx : s.stepIndex = none) (hinput : s.input = []) :
    fetch s = .idle := by
  simp [fetch, hillegal, hidx, hinput, decodeCommand]

/-- Settles O48: the step's own rule at a boundary with no byte. -/
theorem idleCoreExecutesNothing : Obligations.IdleCoreExecutesNothing := fun _ => step_idle

/-! ### The reset event (R270) -/

/-- R270: outside the hidden state nothing of the state before is left; the numbering of free values is forgotten with it. -/
theorem forgetHidden_applyReset (s : State) : forgetHidden (applyReset s) = forgetHidden State.reset := rfl

/-- R252, R270: reset ends a halt. -/
theorem acceptsByte_applyReset (s : State) : acceptsByte (applyReset s) = true := rfl

/-- R270: the command in progress and the bytes received are forgotten, so the decoder expects an opcode. -/
theorem fetch_applyReset (s : State) : fetch (applyReset s) = .idle := fetch_idle rfl rfl rfl

/-- Settles O53: the context, the working state and the latch are those of the reset state, and so is what a fetch finds. -/
theorem resetEventClearsEverything : Obligations.ResetEventClearsEverything := fun s =>
  ⟨rfl, rfl, rfl, forgetHidden_applyReset s, acceptsByte_applyReset s, fetch_applyReset s⟩

end Sys2Proof.Proofs
